-- ==== Sys2Proof/Word.lean ====
section
/-! DEFINITION. The word types. -/

namespace Sys2Proof

/-- A byte: the width of a general register and of every bus access (R20, R60, R66). -/
abbrev Byte := BitVec 8

/-- A 16-bit value: PC, SP, the composite views and bus addresses (R22, R27, R29, R65). -/
abbrev Word := BitVec 16

/-- The index of one of the five interrupt sources (R333). A sixth cannot be expressed (R334, U9). -/
abbrev Irq := Fin 5

end Sys2Proof
end

