-- ==== Sys2Proof/Config.lean ====
section
/-! DEFINITION. The parameters of R6, each at the value or default the spec gives, and the free values: constants without
a body, which nothing in Lean can evaluate, for what the spec leaves to other parties. -/

namespace Sys2Proof

/-- The instruction categories that reach the quirk routine: the six tags of R395 (C3). -/
inductive QuirkTag where
  | incDec | push1 | push2 | pop1 | pop2 | ld16
  deriving DecidableEq, Repr

namespace Config

/-! ### Fixed values and open parameters (R6) -/

/-- PREFIX_BYTE: the base opcode that selects the extended table (R6, D2). -/
def cbByte : Byte := 0xCB

/-- VEC_BASE (R6, R333). -/
def vecBase : Word := 0x0040

/-- VEC_STRIDE (R6, R333). -/
def vecStride : Word := 0x0008

/-- TICKS_PER_MCYCLE (R6). -/
def ticksPerMCycle : Nat := 4

/-- RESET_A and so on: the defaults of R6, R43 and R381. DESIGN CHOICE (log 4). -/
def resetA : Byte := 0x01
/-- RESET_F (R43). DESIGN CHOICE (log 4). -/
def resetF : Byte := 0xB0
/-- RESET_B (R43). DESIGN CHOICE (log 4). -/
def resetB : Byte := 0x00
/-- RESET_C (R43). DESIGN CHOICE (log 4). -/
def resetC : Byte := 0x13
/-- RESET_D (R43). DESIGN CHOICE (log 4). -/
def resetD : Byte := 0x00
/-- RESET_E (R43). DESIGN CHOICE (log 4). -/
def resetE : Byte := 0xD8
/-- RESET_H (R43). DESIGN CHOICE (log 4). -/
def resetH : Byte := 0x01
/-- RESET_L (R43). DESIGN CHOICE (log 4). -/
def resetL : Byte := 0x4D
/-- RESET_SP (R43). DESIGN CHOICE (log 4). -/
def resetSP : Word := 0xFFFE
/-- RESET_PC (R43). DESIGN CHOICE (log 4). -/
def resetPC : Word := 0x0100
/-- RESET_IE (R43). DESIGN CHOICE (log 4). -/
def resetIE : BitVec 5 := 0
/-- RESET_IF (R43). DESIGN CHOICE (log 4). -/
def resetIF : BitVec 5 := 0

/-- IE_ADDR (R6, R356, D18). DESIGN CHOICE: the default (log 10). -/
def ieAddr : Word := 0xFFFF

/-- IF_ADDR (R6, R356, D18). DESIGN CHOICE: the default (log 10). -/
def ifAddr : Word := 0xFF0F

/-- OAM_LO (R6, R394, D16). DESIGN CHOICE: the default (log 10). -/
def oamLo : Word := 0xFE00

/-- OAM_HI (R6, R394, D16). DESIGN CHOICE: the default (log 10). -/
def oamHi : Word := 0xFEFF

/-- SPRITE_SCAN_MODE (R6, R394, D16). DESIGN CHOICE: the default (log 10). -/
def spriteScanMode : Nat := 2

/-- STOP_SKIP (R6, R307, D14). DESIGN CHOICE: the default (log 9). -/
def stopSkip : Bool := false

/-- WAKE_NEEDS_ENABLE (R6, R306, R361, D9). DESIGN CHOICE: the default (log 9). -/
def wakeNeedsEnable : Bool := true

/-! ### Free values -/

/-- Bits 7 to 5 of a read of IE at a given clock tick: any value (U3, R335; log 6), but on the reference platform.
Free value. -/
opaque ieUnusedBits : Nat → BitVec 3

/-- The graphics collaborator's `displayEnabled()` at a given clock tick (R393; log 7), but on the reference platform. Free
value. -/
opaque displayEnabled : Nat → Bool

/-- The graphics collaborator's `pipelineMode()` at a given clock tick, width not stated (R393; log 7). Free value. -/
opaque pipelineMode : Nat → Nat

/-- The graphics collaborator's `ticksInLine()` at a given clock tick (R393; log 7). Free value. -/
opaque ticksInLine : Nat → Nat

/-- The routine OamCorrupt (R396; U5; log 8): from the tag, the ticks in the line and the old bytes of the sprite-attribute
region, the new byte at an offset of that region. Free value. -/
opaque oamCorrupt : QuirkTag → Nat → List Byte → Nat → Byte

end Config

end Sys2Proof
end

