-- ==== Sys2Proof/Syntax.lean ====
section
/-! DEFINITION. The instructions as syntax: the operand selectors of R94 to R97, the six formats of R92, one constructor of
`Instr` for every row of spec/opcode_table.json, and `Form`, the operations of the instruction rules with their operand
selectors, of which each row is one case (`Instr.form`, in Decode.lean). -/

namespace Sys2Proof

/-- The 8-bit register selector `r` without the value 6, which is the memory byte at HL (R94). -/
inductive Reg8 where
  | b | c | d | e | h | l | a
  deriving DecidableEq, Repr

/-- The 16-bit operand table `rr` (R95). -/
inductive Reg16 where
  | bc | de | hl | sp
  deriving DecidableEq, Repr

/-- The 16-bit operand table `rr2` of PUSH and POP (R95). -/
inductive StackReg where
  | bc | de | hl | af
  deriving DecidableEq, Repr

/-- The pointer of the indirect-load group: `(BC)`, `(DE)`, `(HL+)`, `(HL-)` (R95). -/
inductive IndPtr where
  | bc | de | hlInc | hlDec
  deriving DecidableEq, Repr

/-- The condition selector `cc` (R96). -/
inductive Cond where
  | nz | z | nc | c
  deriving DecidableEq, Repr

/-- The eight operations on the accumulator (R97). -/
inductive AluOp where
  | add | adc | sub | sbc | and | xor | or | cp
  deriving DecidableEq, Repr

/-- The eight rotate and shift operations of the extended table (R97). -/
inductive RotOp where
  | rlc | rrc | rl | rr | sla | sra | swap | srl
  deriving DecidableEq, Repr

/-- The four accumulator rotates of the base table (R97). -/
inductive AccRotOp where
  | rlca | rrca | rla | rra
  deriving DecidableEq, Repr

/-- The six instruction formats (R92). -/
inductive Format where
  | op | opD8 | opA8 | opE8 | opD16 | cbOp
  deriving DecidableEq, Repr

/-- One constructor per row of spec/opcode_table.json: first the rows with an immediate, then the others (Lean's runtime
has a limit on the place of a constructor with arguments), each in the table's order. The 256 base opcodes are those of
R98 to R101 and R104; the 256 extended ones, whose names begin `cb`, those of R102. `Ind` before an operand means that it stands in parentheses.
An operand is the immediate of the row's format (R93). -/
inductive Instr where
  | ldBcD16 (n : Word)  -- 0x01  LD BC,d16
  | ldBD8 (n : Byte)  -- 0x06  LD B,d8
  | ldIndA16Sp (a : Word)  -- 0x08  LD (a16),SP
  | ldCD8 (n : Byte)  -- 0x0E  LD C,d8
  | ldDeD16 (n : Word)  -- 0x11  LD DE,d16
  | ldDD8 (n : Byte)  -- 0x16  LD D,d8
  | jrE8 (e : Byte)  -- 0x18  JR e8
  | ldED8 (n : Byte)  -- 0x1E  LD E,d8
  | jrNzE8 (e : Byte)  -- 0x20  JR NZ,e8
  | ldHlD16 (n : Word)  -- 0x21  LD HL,d16
  | ldHD8 (n : Byte)  -- 0x26  LD H,d8
  | jrZE8 (e : Byte)  -- 0x28  JR Z,e8
  | ldLD8 (n : Byte)  -- 0x2E  LD L,d8
  | jrNcE8 (e : Byte)  -- 0x30  JR NC,e8
  | ldSpD16 (n : Word)  -- 0x31  LD SP,d16
  | ldIndHlD8 (n : Byte)  -- 0x36  LD (HL),d8
  | jrCE8 (e : Byte)  -- 0x38  JR C,e8
  | ldAD8 (n : Byte)  -- 0x3E  LD A,d8
  | jpNzA16 (a : Word)  -- 0xC2  JP NZ,a16
  | jpA16 (a : Word)  -- 0xC3  JP a16
  | callNzA16 (a : Word)  -- 0xC4  CALL NZ,a16
  | addAD8 (n : Byte)  -- 0xC6  ADD A,d8
  | jpZA16 (a : Word)  -- 0xCA  JP Z,a16
  | callZA16 (a : Word)  -- 0xCC  CALL Z,a16
  | callA16 (a : Word)  -- 0xCD  CALL a16
  | adcAD8 (n : Byte)  -- 0xCE  ADC A,d8
  | jpNcA16 (a : Word)  -- 0xD2  JP NC,a16
  | callNcA16 (a : Word)  -- 0xD4  CALL NC,a16
  | subAD8 (n : Byte)  -- 0xD6  SUB A,d8
  | jpCA16 (a : Word)  -- 0xDA  JP C,a16
  | callCA16 (a : Word)  -- 0xDC  CALL C,a16
  | sbcAD8 (n : Byte)  -- 0xDE  SBC A,d8
  | ldhIndA8A (a : Byte)  -- 0xE0  LDH (a8),A
  | andAD8 (n : Byte)  -- 0xE6  AND A,d8
  | addSpE8 (e : Byte)  -- 0xE8  ADD SP,e8
  | ldIndA16A (a : Word)  -- 0xEA  LD (a16),A
  | xorAD8 (n : Byte)  -- 0xEE  XOR A,d8
  | ldhAIndA8 (a : Byte)  -- 0xF0  LDH A,(a8)
  | orAD8 (n : Byte)  -- 0xF6  OR A,d8
  | ldHlSpE8 (e : Byte)  -- 0xF8  LD HL,SP+e8
  | ldAIndA16 (a : Word)  -- 0xFA  LD A,(a16)
  | cpAD8 (n : Byte)  -- 0xFE  CP A,d8
  | nop  -- 0x00  NOP
  | ldIndBcA  -- 0x02  LD (BC),A
  | incBc  -- 0x03  INC BC
  | incB  -- 0x04  INC B
  | decB  -- 0x05  DEC B
  | rlca  -- 0x07  RLCA
  | addHlBc  -- 0x09  ADD HL,BC
  | ldAIndBc  -- 0x0A  LD A,(BC)
  | decBc  -- 0x0B  DEC BC
  | incC  -- 0x0C  INC C
  | decC  -- 0x0D  DEC C
  | rrca  -- 0x0F  RRCA
  | stop  -- 0x10  STOP
  | ldIndDeA  -- 0x12  LD (DE),A
  | incDe  -- 0x13  INC DE
  | incD  -- 0x14  INC D
  | decD  -- 0x15  DEC D
  | rla  -- 0x17  RLA
  | addHlDe  -- 0x19  ADD HL,DE
  | ldAIndDe  -- 0x1A  LD A,(DE)
  | decDe  -- 0x1B  DEC DE
  | incE  -- 0x1C  INC E
  | decE  -- 0x1D  DEC E
  | rra  -- 0x1F  RRA
  | ldIndHlIncA  -- 0x22  LD (HL+),A
  | incHl  -- 0x23  INC HL
  | incH  -- 0x24  INC H
  | decH  -- 0x25  DEC H
  | daa  -- 0x27  DAA
  | addHlHl  -- 0x29  ADD HL,HL
  | ldAIndHlInc  -- 0x2A  LD A,(HL+)
  | decHl  -- 0x2B  DEC HL
  | incL  -- 0x2C  INC L
  | decL  -- 0x2D  DEC L
  | cpl  -- 0x2F  CPL
  | ldIndHlDecA  -- 0x32  LD (HL-),A
  | incSp  -- 0x33  INC SP
  | incIndHl  -- 0x34  INC (HL)
  | decIndHl  -- 0x35  DEC (HL)
  | scf  -- 0x37  SCF
  | addHlSp  -- 0x39  ADD HL,SP
  | ldAIndHlDec  -- 0x3A  LD A,(HL-)
  | decSp  -- 0x3B  DEC SP
  | incA  -- 0x3C  INC A
  | decA  -- 0x3D  DEC A
  | ccf  -- 0x3F  CCF
  | ldBB  -- 0x40  LD B,B
  | ldBC  -- 0x41  LD B,C
  | ldBD  -- 0x42  LD B,D
  | ldBE  -- 0x43  LD B,E
  | ldBH  -- 0x44  LD B,H
  | ldBL  -- 0x45  LD B,L
  | ldBIndHl  -- 0x46  LD B,(HL)
  | ldBA  -- 0x47  LD B,A
  | ldCB  -- 0x48  LD C,B
  | ldCC  -- 0x49  LD C,C
  | ldCD  -- 0x4A  LD C,D
  | ldCE  -- 0x4B  LD C,E
  | ldCH  -- 0x4C  LD C,H
  | ldCL  -- 0x4D  LD C,L
  | ldCIndHl  -- 0x4E  LD C,(HL)
  | ldCA  -- 0x4F  LD C,A
  | ldDB  -- 0x50  LD D,B
  | ldDC  -- 0x51  LD D,C
  | ldDD  -- 0x52  LD D,D
  | ldDE  -- 0x53  LD D,E
  | ldDH  -- 0x54  LD D,H
  | ldDL  -- 0x55  LD D,L
  | ldDIndHl  -- 0x56  LD D,(HL)
  | ldDA  -- 0x57  LD D,A
  | ldEB  -- 0x58  LD E,B
  | ldEC  -- 0x59  LD E,C
  | ldED  -- 0x5A  LD E,D
  | ldEE  -- 0x5B  LD E,E
  | ldEH  -- 0x5C  LD E,H
  | ldEL  -- 0x5D  LD E,L
  | ldEIndHl  -- 0x5E  LD E,(HL)
  | ldEA  -- 0x5F  LD E,A
  | ldHB  -- 0x60  LD H,B
  | ldHC  -- 0x61  LD H,C
  | ldHD  -- 0x62  LD H,D
  | ldHE  -- 0x63  LD H,E
  | ldHH  -- 0x64  LD H,H
  | ldHL  -- 0x65  LD H,L
  | ldHIndHl  -- 0x66  LD H,(HL)
  | ldHA  -- 0x67  LD H,A
  | ldLB  -- 0x68  LD L,B
  | ldLC  -- 0x69  LD L,C
  | ldLD  -- 0x6A  LD L,D
  | ldLE  -- 0x6B  LD L,E
  | ldLH  -- 0x6C  LD L,H
  | ldLL  -- 0x6D  LD L,L
  | ldLIndHl  -- 0x6E  LD L,(HL)
  | ldLA  -- 0x6F  LD L,A
  | ldIndHlB  -- 0x70  LD (HL),B
  | ldIndHlC  -- 0x71  LD (HL),C
  | ldIndHlD  -- 0x72  LD (HL),D
  | ldIndHlE  -- 0x73  LD (HL),E
  | ldIndHlH  -- 0x74  LD (HL),H
  | ldIndHlL  -- 0x75  LD (HL),L
  | halt  -- 0x76  HALT
  | ldIndHlA  -- 0x77  LD (HL),A
  | ldAB  -- 0x78  LD A,B
  | ldAC  -- 0x79  LD A,C
  | ldAD  -- 0x7A  LD A,D
  | ldAE  -- 0x7B  LD A,E
  | ldAH  -- 0x7C  LD A,H
  | ldAL  -- 0x7D  LD A,L
  | ldAIndHl  -- 0x7E  LD A,(HL)
  | ldAA  -- 0x7F  LD A,A
  | addAB  -- 0x80  ADD A,B
  | addAC  -- 0x81  ADD A,C
  | addAD  -- 0x82  ADD A,D
  | addAE  -- 0x83  ADD A,E
  | addAH  -- 0x84  ADD A,H
  | addAL  -- 0x85  ADD A,L
  | addAIndHl  -- 0x86  ADD A,(HL)
  | addAA  -- 0x87  ADD A,A
  | adcAB  -- 0x88  ADC A,B
  | adcAC  -- 0x89  ADC A,C
  | adcAD  -- 0x8A  ADC A,D
  | adcAE  -- 0x8B  ADC A,E
  | adcAH  -- 0x8C  ADC A,H
  | adcAL  -- 0x8D  ADC A,L
  | adcAIndHl  -- 0x8E  ADC A,(HL)
  | adcAA  -- 0x8F  ADC A,A
  | subAB  -- 0x90  SUB A,B
  | subAC  -- 0x91  SUB A,C
  | subAD  -- 0x92  SUB A,D
  | subAE  -- 0x93  SUB A,E
  | subAH  -- 0x94  SUB A,H
  | subAL  -- 0x95  SUB A,L
  | subAIndHl  -- 0x96  SUB A,(HL)
  | subAA  -- 0x97  SUB A,A
  | sbcAB  -- 0x98  SBC A,B
  | sbcAC  -- 0x99  SBC A,C
  | sbcAD  -- 0x9A  SBC A,D
  | sbcAE  -- 0x9B  SBC A,E
  | sbcAH  -- 0x9C  SBC A,H
  | sbcAL  -- 0x9D  SBC A,L
  | sbcAIndHl  -- 0x9E  SBC A,(HL)
  | sbcAA  -- 0x9F  SBC A,A
  | andAB  -- 0xA0  AND A,B
  | andAC  -- 0xA1  AND A,C
  | andAD  -- 0xA2  AND A,D
  | andAE  -- 0xA3  AND A,E
  | andAH  -- 0xA4  AND A,H
  | andAL  -- 0xA5  AND A,L
  | andAIndHl  -- 0xA6  AND A,(HL)
  | andAA  -- 0xA7  AND A,A
  | xorAB  -- 0xA8  XOR A,B
  | xorAC  -- 0xA9  XOR A,C
  | xorAD  -- 0xAA  XOR A,D
  | xorAE  -- 0xAB  XOR A,E
  | xorAH  -- 0xAC  XOR A,H
  | xorAL  -- 0xAD  XOR A,L
  | xorAIndHl  -- 0xAE  XOR A,(HL)
  | xorAA  -- 0xAF  XOR A,A
  | orAB  -- 0xB0  OR A,B
  | orAC  -- 0xB1  OR A,C
  | orAD  -- 0xB2  OR A,D
  | orAE  -- 0xB3  OR A,E
  | orAH  -- 0xB4  OR A,H
  | orAL  -- 0xB5  OR A,L
  | orAIndHl  -- 0xB6  OR A,(HL)
  | orAA  -- 0xB7  OR A,A
  | cpAB  -- 0xB8  CP A,B
  | cpAC  -- 0xB9  CP A,C
  | cpAD  -- 0xBA  CP A,D
  | cpAE  -- 0xBB  CP A,E
  | cpAH  -- 0xBC  CP A,H
  | cpAL  -- 0xBD  CP A,L
  | cpAIndHl  -- 0xBE  CP A,(HL)
  | cpAA  -- 0xBF  CP A,A
  | retNz  -- 0xC0  RET NZ
  | popBc  -- 0xC1  POP BC
  | pushBc  -- 0xC5  PUSH BC
  | rst00  -- 0xC7  RST 00H
  | retZ  -- 0xC8  RET Z
  | ret  -- 0xC9  RET
  | prefixCb  -- 0xCB  PREFIX CB
  | rst08  -- 0xCF  RST 08H
  | retNc  -- 0xD0  RET NC
  | popDe  -- 0xD1  POP DE
  | illegalD3  -- 0xD3  ILLEGAL_D3
  | pushDe  -- 0xD5  PUSH DE
  | rst10  -- 0xD7  RST 10H
  | retC  -- 0xD8  RET C
  | reti  -- 0xD9  RETI
  | illegalDB  -- 0xDB  ILLEGAL_DB
  | illegalDD  -- 0xDD  ILLEGAL_DD
  | rst18  -- 0xDF  RST 18H
  | popHl  -- 0xE1  POP HL
  | ldhIndCA  -- 0xE2  LDH (C),A
  | illegalE3  -- 0xE3  ILLEGAL_E3
  | illegalE4  -- 0xE4  ILLEGAL_E4
  | pushHl  -- 0xE5  PUSH HL
  | rst20  -- 0xE7  RST 20H
  | jpHl  -- 0xE9  JP HL
  | illegalEB  -- 0xEB  ILLEGAL_EB
  | illegalEC  -- 0xEC  ILLEGAL_EC
  | illegalED  -- 0xED  ILLEGAL_ED
  | rst28  -- 0xEF  RST 28H
  | popAf  -- 0xF1  POP AF
  | ldhAIndC  -- 0xF2  LDH A,(C)
  | di  -- 0xF3  DI
  | illegalF4  -- 0xF4  ILLEGAL_F4
  | pushAf  -- 0xF5  PUSH AF
  | rst30  -- 0xF7  RST 30H
  | ldSpHl  -- 0xF9  LD SP,HL
  | ei  -- 0xFB  EI
  | illegalFC  -- 0xFC  ILLEGAL_FC
  | illegalFD  -- 0xFD  ILLEGAL_FD
  | rst38  -- 0xFF  RST 38H
  | cbRlcB  -- 0xCB 0x00  RLC B
  | cbRlcC  -- 0xCB 0x01  RLC C
  | cbRlcD  -- 0xCB 0x02  RLC D
  | cbRlcE  -- 0xCB 0x03  RLC E
  | cbRlcH  -- 0xCB 0x04  RLC H
  | cbRlcL  -- 0xCB 0x05  RLC L
  | cbRlcIndHl  -- 0xCB 0x06  RLC (HL)
  | cbRlcA  -- 0xCB 0x07  RLC A
  | cbRrcB  -- 0xCB 0x08  RRC B
  | cbRrcC  -- 0xCB 0x09  RRC C
  | cbRrcD  -- 0xCB 0x0A  RRC D
  | cbRrcE  -- 0xCB 0x0B  RRC E
  | cbRrcH  -- 0xCB 0x0C  RRC H
  | cbRrcL  -- 0xCB 0x0D  RRC L
  | cbRrcIndHl  -- 0xCB 0x0E  RRC (HL)
  | cbRrcA  -- 0xCB 0x0F  RRC A
  | cbRlB  -- 0xCB 0x10  RL B
  | cbRlC  -- 0xCB 0x11  RL C
  | cbRlD  -- 0xCB 0x12  RL D
  | cbRlE  -- 0xCB 0x13  RL E
  | cbRlH  -- 0xCB 0x14  RL H
  | cbRlL  -- 0xCB 0x15  RL L
  | cbRlIndHl  -- 0xCB 0x16  RL (HL)
  | cbRlA  -- 0xCB 0x17  RL A
  | cbRrB  -- 0xCB 0x18  RR B
  | cbRrC  -- 0xCB 0x19  RR C
  | cbRrD  -- 0xCB 0x1A  RR D
  | cbRrE  -- 0xCB 0x1B  RR E
  | cbRrH  -- 0xCB 0x1C  RR H
  | cbRrL  -- 0xCB 0x1D  RR L
  | cbRrIndHl  -- 0xCB 0x1E  RR (HL)
  | cbRrA  -- 0xCB 0x1F  RR A
  | cbSlaB  -- 0xCB 0x20  SLA B
  | cbSlaC  -- 0xCB 0x21  SLA C
  | cbSlaD  -- 0xCB 0x22  SLA D
  | cbSlaE  -- 0xCB 0x23  SLA E
  | cbSlaH  -- 0xCB 0x24  SLA H
  | cbSlaL  -- 0xCB 0x25  SLA L
  | cbSlaIndHl  -- 0xCB 0x26  SLA (HL)
  | cbSlaA  -- 0xCB 0x27  SLA A
  | cbSraB  -- 0xCB 0x28  SRA B
  | cbSraC  -- 0xCB 0x29  SRA C
  | cbSraD  -- 0xCB 0x2A  SRA D
  | cbSraE  -- 0xCB 0x2B  SRA E
  | cbSraH  -- 0xCB 0x2C  SRA H
  | cbSraL  -- 0xCB 0x2D  SRA L
  | cbSraIndHl  -- 0xCB 0x2E  SRA (HL)
  | cbSraA  -- 0xCB 0x2F  SRA A
  | cbSwapB  -- 0xCB 0x30  SWAP B
  | cbSwapC  -- 0xCB 0x31  SWAP C
  | cbSwapD  -- 0xCB 0x32  SWAP D
  | cbSwapE  -- 0xCB 0x33  SWAP E
  | cbSwapH  -- 0xCB 0x34  SWAP H
  | cbSwapL  -- 0xCB 0x35  SWAP L
  | cbSwapIndHl  -- 0xCB 0x36  SWAP (HL)
  | cbSwapA  -- 0xCB 0x37  SWAP A
  | cbSrlB  -- 0xCB 0x38  SRL B
  | cbSrlC  -- 0xCB 0x39  SRL C
  | cbSrlD  -- 0xCB 0x3A  SRL D
  | cbSrlE  -- 0xCB 0x3B  SRL E
  | cbSrlH  -- 0xCB 0x3C  SRL H
  | cbSrlL  -- 0xCB 0x3D  SRL L
  | cbSrlIndHl  -- 0xCB 0x3E  SRL (HL)
  | cbSrlA  -- 0xCB 0x3F  SRL A
  | cbBit0B  -- 0xCB 0x40  BIT 0,B
  | cbBit0C  -- 0xCB 0x41  BIT 0,C
  | cbBit0D  -- 0xCB 0x42  BIT 0,D
  | cbBit0E  -- 0xCB 0x43  BIT 0,E
  | cbBit0H  -- 0xCB 0x44  BIT 0,H
  | cbBit0L  -- 0xCB 0x45  BIT 0,L
  | cbBit0IndHl  -- 0xCB 0x46  BIT 0,(HL)
  | cbBit0A  -- 0xCB 0x47  BIT 0,A
  | cbBit1B  -- 0xCB 0x48  BIT 1,B
  | cbBit1C  -- 0xCB 0x49  BIT 1,C
  | cbBit1D  -- 0xCB 0x4A  BIT 1,D
  | cbBit1E  -- 0xCB 0x4B  BIT 1,E
  | cbBit1H  -- 0xCB 0x4C  BIT 1,H
  | cbBit1L  -- 0xCB 0x4D  BIT 1,L
  | cbBit1IndHl  -- 0xCB 0x4E  BIT 1,(HL)
  | cbBit1A  -- 0xCB 0x4F  BIT 1,A
  | cbBit2B  -- 0xCB 0x50  BIT 2,B
  | cbBit2C  -- 0xCB 0x51  BIT 2,C
  | cbBit2D  -- 0xCB 0x52  BIT 2,D
  | cbBit2E  -- 0xCB 0x53  BIT 2,E
  | cbBit2H  -- 0xCB 0x54  BIT 2,H
  | cbBit2L  -- 0xCB 0x55  BIT 2,L
  | cbBit2IndHl  -- 0xCB 0x56  BIT 2,(HL)
  | cbBit2A  -- 0xCB 0x57  BIT 2,A
  | cbBit3B  -- 0xCB 0x58  BIT 3,B
  | cbBit3C  -- 0xCB 0x59  BIT 3,C
  | cbBit3D  -- 0xCB 0x5A  BIT 3,D
  | cbBit3E  -- 0xCB 0x5B  BIT 3,E
  | cbBit3H  -- 0xCB 0x5C  BIT 3,H
  | cbBit3L  -- 0xCB 0x5D  BIT 3,L
  | cbBit3IndHl  -- 0xCB 0x5E  BIT 3,(HL)
  | cbBit3A  -- 0xCB 0x5F  BIT 3,A
  | cbBit4B  -- 0xCB 0x60  BIT 4,B
  | cbBit4C  -- 0xCB 0x61  BIT 4,C
  | cbBit4D  -- 0xCB 0x62  BIT 4,D
  | cbBit4E  -- 0xCB 0x63  BIT 4,E
  | cbBit4H  -- 0xCB 0x64  BIT 4,H
  | cbBit4L  -- 0xCB 0x65  BIT 4,L
  | cbBit4IndHl  -- 0xCB 0x66  BIT 4,(HL)
  | cbBit4A  -- 0xCB 0x67  BIT 4,A
  | cbBit5B  -- 0xCB 0x68  BIT 5,B
  | cbBit5C  -- 0xCB 0x69  BIT 5,C
  | cbBit5D  -- 0xCB 0x6A  BIT 5,D
  | cbBit5E  -- 0xCB 0x6B  BIT 5,E
  | cbBit5H  -- 0xCB 0x6C  BIT 5,H
  | cbBit5L  -- 0xCB 0x6D  BIT 5,L
  | cbBit5IndHl  -- 0xCB 0x6E  BIT 5,(HL)
  | cbBit5A  -- 0xCB 0x6F  BIT 5,A
  | cbBit6B  -- 0xCB 0x70  BIT 6,B
  | cbBit6C  -- 0xCB 0x71  BIT 6,C
  | cbBit6D  -- 0xCB 0x72  BIT 6,D
  | cbBit6E  -- 0xCB 0x73  BIT 6,E
  | cbBit6H  -- 0xCB 0x74  BIT 6,H
  | cbBit6L  -- 0xCB 0x75  BIT 6,L
  | cbBit6IndHl  -- 0xCB 0x76  BIT 6,(HL)
  | cbBit6A  -- 0xCB 0x77  BIT 6,A
  | cbBit7B  -- 0xCB 0x78  BIT 7,B
  | cbBit7C  -- 0xCB 0x79  BIT 7,C
  | cbBit7D  -- 0xCB 0x7A  BIT 7,D
  | cbBit7E  -- 0xCB 0x7B  BIT 7,E
  | cbBit7H  -- 0xCB 0x7C  BIT 7,H
  | cbBit7L  -- 0xCB 0x7D  BIT 7,L
  | cbBit7IndHl  -- 0xCB 0x7E  BIT 7,(HL)
  | cbBit7A  -- 0xCB 0x7F  BIT 7,A
  | cbRes0B  -- 0xCB 0x80  RES 0,B
  | cbRes0C  -- 0xCB 0x81  RES 0,C
  | cbRes0D  -- 0xCB 0x82  RES 0,D
  | cbRes0E  -- 0xCB 0x83  RES 0,E
  | cbRes0H  -- 0xCB 0x84  RES 0,H
  | cbRes0L  -- 0xCB 0x85  RES 0,L
  | cbRes0IndHl  -- 0xCB 0x86  RES 0,(HL)
  | cbRes0A  -- 0xCB 0x87  RES 0,A
  | cbRes1B  -- 0xCB 0x88  RES 1,B
  | cbRes1C  -- 0xCB 0x89  RES 1,C
  | cbRes1D  -- 0xCB 0x8A  RES 1,D
  | cbRes1E  -- 0xCB 0x8B  RES 1,E
  | cbRes1H  -- 0xCB 0x8C  RES 1,H
  | cbRes1L  -- 0xCB 0x8D  RES 1,L
  | cbRes1IndHl  -- 0xCB 0x8E  RES 1,(HL)
  | cbRes1A  -- 0xCB 0x8F  RES 1,A
  | cbRes2B  -- 0xCB 0x90  RES 2,B
  | cbRes2C  -- 0xCB 0x91  RES 2,C
  | cbRes2D  -- 0xCB 0x92  RES 2,D
  | cbRes2E  -- 0xCB 0x93  RES 2,E
  | cbRes2H  -- 0xCB 0x94  RES 2,H
  | cbRes2L  -- 0xCB 0x95  RES 2,L
  | cbRes2IndHl  -- 0xCB 0x96  RES 2,(HL)
  | cbRes2A  -- 0xCB 0x97  RES 2,A
  | cbRes3B  -- 0xCB 0x98  RES 3,B
  | cbRes3C  -- 0xCB 0x99  RES 3,C
  | cbRes3D  -- 0xCB 0x9A  RES 3,D
  | cbRes3E  -- 0xCB 0x9B  RES 3,E
  | cbRes3H  -- 0xCB 0x9C  RES 3,H
  | cbRes3L  -- 0xCB 0x9D  RES 3,L
  | cbRes3IndHl  -- 0xCB 0x9E  RES 3,(HL)
  | cbRes3A  -- 0xCB 0x9F  RES 3,A
  | cbRes4B  -- 0xCB 0xA0  RES 4,B
  | cbRes4C  -- 0xCB 0xA1  RES 4,C
  | cbRes4D  -- 0xCB 0xA2  RES 4,D
  | cbRes4E  -- 0xCB 0xA3  RES 4,E
  | cbRes4H  -- 0xCB 0xA4  RES 4,H
  | cbRes4L  -- 0xCB 0xA5  RES 4,L
  | cbRes4IndHl  -- 0xCB 0xA6  RES 4,(HL)
  | cbRes4A  -- 0xCB 0xA7  RES 4,A
  | cbRes5B  -- 0xCB 0xA8  RES 5,B
  | cbRes5C  -- 0xCB 0xA9  RES 5,C
  | cbRes5D  -- 0xCB 0xAA  RES 5,D
  | cbRes5E  -- 0xCB 0xAB  RES 5,E
  | cbRes5H  -- 0xCB 0xAC  RES 5,H
  | cbRes5L  -- 0xCB 0xAD  RES 5,L
  | cbRes5IndHl  -- 0xCB 0xAE  RES 5,(HL)
  | cbRes5A  -- 0xCB 0xAF  RES 5,A
  | cbRes6B  -- 0xCB 0xB0  RES 6,B
  | cbRes6C  -- 0xCB 0xB1  RES 6,C
  | cbRes6D  -- 0xCB 0xB2  RES 6,D
  | cbRes6E  -- 0xCB 0xB3  RES 6,E
  | cbRes6H  -- 0xCB 0xB4  RES 6,H
  | cbRes6L  -- 0xCB 0xB5  RES 6,L
  | cbRes6IndHl  -- 0xCB 0xB6  RES 6,(HL)
  | cbRes6A  -- 0xCB 0xB7  RES 6,A
  | cbRes7B  -- 0xCB 0xB8  RES 7,B
  | cbRes7C  -- 0xCB 0xB9  RES 7,C
  | cbRes7D  -- 0xCB 0xBA  RES 7,D
  | cbRes7E  -- 0xCB 0xBB  RES 7,E
  | cbRes7H  -- 0xCB 0xBC  RES 7,H
  | cbRes7L  -- 0xCB 0xBD  RES 7,L
  | cbRes7IndHl  -- 0xCB 0xBE  RES 7,(HL)
  | cbRes7A  -- 0xCB 0xBF  RES 7,A
  | cbSet0B  -- 0xCB 0xC0  SET 0,B
  | cbSet0C  -- 0xCB 0xC1  SET 0,C
  | cbSet0D  -- 0xCB 0xC2  SET 0,D
  | cbSet0E  -- 0xCB 0xC3  SET 0,E
  | cbSet0H  -- 0xCB 0xC4  SET 0,H
  | cbSet0L  -- 0xCB 0xC5  SET 0,L
  | cbSet0IndHl  -- 0xCB 0xC6  SET 0,(HL)
  | cbSet0A  -- 0xCB 0xC7  SET 0,A
  | cbSet1B  -- 0xCB 0xC8  SET 1,B
  | cbSet1C  -- 0xCB 0xC9  SET 1,C
  | cbSet1D  -- 0xCB 0xCA  SET 1,D
  | cbSet1E  -- 0xCB 0xCB  SET 1,E
  | cbSet1H  -- 0xCB 0xCC  SET 1,H
  | cbSet1L  -- 0xCB 0xCD  SET 1,L
  | cbSet1IndHl  -- 0xCB 0xCE  SET 1,(HL)
  | cbSet1A  -- 0xCB 0xCF  SET 1,A
  | cbSet2B  -- 0xCB 0xD0  SET 2,B
  | cbSet2C  -- 0xCB 0xD1  SET 2,C
  | cbSet2D  -- 0xCB 0xD2  SET 2,D
  | cbSet2E  -- 0xCB 0xD3  SET 2,E
  | cbSet2H  -- 0xCB 0xD4  SET 2,H
  | cbSet2L  -- 0xCB 0xD5  SET 2,L
  | cbSet2IndHl  -- 0xCB 0xD6  SET 2,(HL)
  | cbSet2A  -- 0xCB 0xD7  SET 2,A
  | cbSet3B  -- 0xCB 0xD8  SET 3,B
  | cbSet3C  -- 0xCB 0xD9  SET 3,C
  | cbSet3D  -- 0xCB 0xDA  SET 3,D
  | cbSet3E  -- 0xCB 0xDB  SET 3,E
  | cbSet3H  -- 0xCB 0xDC  SET 3,H
  | cbSet3L  -- 0xCB 0xDD  SET 3,L
  | cbSet3IndHl  -- 0xCB 0xDE  SET 3,(HL)
  | cbSet3A  -- 0xCB 0xDF  SET 3,A
  | cbSet4B  -- 0xCB 0xE0  SET 4,B
  | cbSet4C  -- 0xCB 0xE1  SET 4,C
  | cbSet4D  -- 0xCB 0xE2  SET 4,D
  | cbSet4E  -- 0xCB 0xE3  SET 4,E
  | cbSet4H  -- 0xCB 0xE4  SET 4,H
  | cbSet4L  -- 0xCB 0xE5  SET 4,L
  | cbSet4IndHl  -- 0xCB 0xE6  SET 4,(HL)
  | cbSet4A  -- 0xCB 0xE7  SET 4,A
  | cbSet5B  -- 0xCB 0xE8  SET 5,B
  | cbSet5C  -- 0xCB 0xE9  SET 5,C
  | cbSet5D  -- 0xCB 0xEA  SET 5,D
  | cbSet5E  -- 0xCB 0xEB  SET 5,E
  | cbSet5H  -- 0xCB 0xEC  SET 5,H
  | cbSet5L  -- 0xCB 0xED  SET 5,L
  | cbSet5IndHl  -- 0xCB 0xEE  SET 5,(HL)
  | cbSet5A  -- 0xCB 0xEF  SET 5,A
  | cbSet6B  -- 0xCB 0xF0  SET 6,B
  | cbSet6C  -- 0xCB 0xF1  SET 6,C
  | cbSet6D  -- 0xCB 0xF2  SET 6,D
  | cbSet6E  -- 0xCB 0xF3  SET 6,E
  | cbSet6H  -- 0xCB 0xF4  SET 6,H
  | cbSet6L  -- 0xCB 0xF5  SET 6,L
  | cbSet6IndHl  -- 0xCB 0xF6  SET 6,(HL)
  | cbSet6A  -- 0xCB 0xF7  SET 6,A
  | cbSet7B  -- 0xCB 0xF8  SET 7,B
  | cbSet7C  -- 0xCB 0xF9  SET 7,C
  | cbSet7D  -- 0xCB 0xFA  SET 7,D
  | cbSet7E  -- 0xCB 0xFB  SET 7,E
  | cbSet7H  -- 0xCB 0xFC  SET 7,H
  | cbSet7L  -- 0xCB 0xFD  SET 7,L
  | cbSet7IndHl  -- 0xCB 0xFE  SET 7,(HL)
  | cbSet7A  -- 0xCB 0xFF  SET 7,A
  deriving DecidableEq, Repr

/-- The operations of the instruction rules, with their operand selectors and immediates: the rows of the opcode maps of
R98 to R102 as those tables group them. A bit index and an RST target are the field `y` (R93). -/
inductive Form where
  | nop | stop | halt | di | ei
  | cbTable
  | unassigned (op : Byte)
  | ldRegReg (r r' : Reg8)
  | ldRegImm (r : Reg8) (n : Byte)
  | ldRegHl (r : Reg8)
  | ldHlReg (r : Reg8)
  | ldHlImm (n : Byte)
  | ldAInd (p : IndPtr)
  | ldIndA (p : IndPtr)
  | ldAAbs (a : Word)
  | ldAbsA (a : Word)
  | ldhAImm (a : Byte)
  | ldhImmA (a : Byte)
  | ldhAC
  | ldhCA
  | ldPairImm (rr : Reg16) (n : Word)
  | ldAbsSp (a : Word)
  | ldSpHl
  | ldHlSpE (e : Byte)
  | push (rr : StackReg)
  | pop (rr : StackReg)
  | aluReg (op : AluOp) (r : Reg8)
  | aluHl (op : AluOp)
  | aluImm (op : AluOp) (n : Byte)
  | incReg (r : Reg8)
  | incHl
  | decReg (r : Reg8)
  | decHl
  | daa | cpl | scf | ccf
  | addHlPair (rr : Reg16)
  | incPair (rr : Reg16)
  | decPair (rr : Reg16)
  | addSpE (e : Byte)
  | accRot (op : AccRotOp)
  | rotReg (op : RotOp) (r : Reg8)
  | rotHl (op : RotOp)
  | bitReg (b : BitVec 3) (r : Reg8)
  | bitHl (b : BitVec 3)
  | resReg (b : BitVec 3) (r : Reg8)
  | resHl (b : BitVec 3)
  | setReg (b : BitVec 3) (r : Reg8)
  | setHl (b : BitVec 3)
  | jp (a : Word)
  | jpCond (cc : Cond) (a : Word)
  | jpHl
  | jr (e : Byte)
  | jrCond (cc : Cond) (e : Byte)
  | call (a : Word)
  | callCond (cc : Cond) (a : Word)
  | ret
  | retCond (cc : Cond)
  | reti
  | rst (t : BitVec 3)
  deriving DecidableEq, Repr

end Sys2Proof
end

