-- ==== Sys2Proof/Decode.lean ====
section
/-! DEFINITION. Decoding and encoding. The decoder reads the two opcode tables row by row in opcode order (R98 to R102, R104)
and takes the instruction's length from its first byte (R90, R106); the encoder builds the words from the field layouts of
the same rules. The two are written separately, so that each checks the other. -/

namespace Sys2Proof

/-! ### Byte order and sign extension (R7, R8, R67) -/

/-- `v[7:0]`. -/
def loByte (v : Word) : Byte := v.extractLsb' 0 8

/-- `v[15:8]`. -/
def hiByte (v : Word) : Byte := v.extractLsb' 8 8

/-- `hi :: lo`. -/
def joinBytes (hi lo : Byte) : Word := hi ++ lo

/-- `sext_16(v)` (R8). -/
def sext16 (v : Byte) : Word := v.signExtend 16

/-- The high-page address `0xFF00 | v` (R93). -/
def highPage (v : Byte) : Word := joinBytes 0xFF v

/-! ### The opcode tables -/

/-- Opcodes 0x00 to 0x07 (R98 to R101). -/
def baseRow00 (b1 b2 : Byte) : List Instr :=
  [.nop, .ldBcD16 (joinBytes b2 b1), .ldIndBcA, .incBc, .incB, .decB, .ldBD8 b1, .rlca]

/-- Opcodes 0x08 to 0x0F (R98 to R101). -/
def baseRow01 (b1 b2 : Byte) : List Instr :=
  [.ldIndA16Sp (joinBytes b2 b1), .addHlBc, .ldAIndBc, .decBc, .incC, .decC, .ldCD8 b1, .rrca]

/-- Opcodes 0x10 to 0x17 (R98 to R101). -/
def baseRow02 (b1 b2 : Byte) : List Instr :=
  [.stop, .ldDeD16 (joinBytes b2 b1), .ldIndDeA, .incDe, .incD, .decD, .ldDD8 b1, .rla]

/-- Opcodes 0x18 to 0x1F (R98 to R101). -/
def baseRow03 (b1 _b2 : Byte) : List Instr :=
  [.jrE8 b1, .addHlDe, .ldAIndDe, .decDe, .incE, .decE, .ldED8 b1, .rra]

/-- Opcodes 0x20 to 0x27 (R98 to R101). -/
def baseRow04 (b1 b2 : Byte) : List Instr :=
  [.jrNzE8 b1, .ldHlD16 (joinBytes b2 b1), .ldIndHlIncA, .incHl, .incH, .decH, .ldHD8 b1, .daa]

/-- Opcodes 0x28 to 0x2F (R98 to R101). -/
def baseRow05 (b1 _b2 : Byte) : List Instr :=
  [.jrZE8 b1, .addHlHl, .ldAIndHlInc, .decHl, .incL, .decL, .ldLD8 b1, .cpl]

/-- Opcodes 0x30 to 0x37 (R98 to R101). -/
def baseRow06 (b1 b2 : Byte) : List Instr :=
  [.jrNcE8 b1, .ldSpD16 (joinBytes b2 b1), .ldIndHlDecA, .incSp, .incIndHl, .decIndHl, .ldIndHlD8 b1, .scf]

/-- Opcodes 0x38 to 0x3F (R98 to R101). -/
def baseRow07 (b1 _b2 : Byte) : List Instr :=
  [.jrCE8 b1, .addHlSp, .ldAIndHlDec, .decSp, .incA, .decA, .ldAD8 b1, .ccf]

/-- Opcodes 0x40 to 0x47 (R98 to R101). -/
def baseRow08 (_b1 _b2 : Byte) : List Instr :=
  [.ldBB, .ldBC, .ldBD, .ldBE, .ldBH, .ldBL, .ldBIndHl, .ldBA]

/-- Opcodes 0x48 to 0x4F (R98 to R101). -/
def baseRow09 (_b1 _b2 : Byte) : List Instr :=
  [.ldCB, .ldCC, .ldCD, .ldCE, .ldCH, .ldCL, .ldCIndHl, .ldCA]

/-- Opcodes 0x50 to 0x57 (R98 to R101). -/
def baseRow10 (_b1 _b2 : Byte) : List Instr :=
  [.ldDB, .ldDC, .ldDD, .ldDE, .ldDH, .ldDL, .ldDIndHl, .ldDA]

/-- Opcodes 0x58 to 0x5F (R98 to R101). -/
def baseRow11 (_b1 _b2 : Byte) : List Instr :=
  [.ldEB, .ldEC, .ldED, .ldEE, .ldEH, .ldEL, .ldEIndHl, .ldEA]

/-- Opcodes 0x60 to 0x67 (R98 to R101). -/
def baseRow12 (_b1 _b2 : Byte) : List Instr :=
  [.ldHB, .ldHC, .ldHD, .ldHE, .ldHH, .ldHL, .ldHIndHl, .ldHA]

/-- Opcodes 0x68 to 0x6F (R98 to R101). -/
def baseRow13 (_b1 _b2 : Byte) : List Instr :=
  [.ldLB, .ldLC, .ldLD, .ldLE, .ldLH, .ldLL, .ldLIndHl, .ldLA]

/-- Opcodes 0x70 to 0x77 (R98 to R101). -/
def baseRow14 (_b1 _b2 : Byte) : List Instr :=
  [.ldIndHlB, .ldIndHlC, .ldIndHlD, .ldIndHlE, .ldIndHlH, .ldIndHlL, .halt, .ldIndHlA]

/-- Opcodes 0x78 to 0x7F (R98 to R101). -/
def baseRow15 (_b1 _b2 : Byte) : List Instr :=
  [.ldAB, .ldAC, .ldAD, .ldAE, .ldAH, .ldAL, .ldAIndHl, .ldAA]

/-- Opcodes 0x80 to 0x87 (R98 to R101). -/
def baseRow16 (_b1 _b2 : Byte) : List Instr :=
  [.addAB, .addAC, .addAD, .addAE, .addAH, .addAL, .addAIndHl, .addAA]

/-- Opcodes 0x88 to 0x8F (R98 to R101). -/
def baseRow17 (_b1 _b2 : Byte) : List Instr :=
  [.adcAB, .adcAC, .adcAD, .adcAE, .adcAH, .adcAL, .adcAIndHl, .adcAA]

/-- Opcodes 0x90 to 0x97 (R98 to R101). -/
def baseRow18 (_b1 _b2 : Byte) : List Instr :=
  [.subAB, .subAC, .subAD, .subAE, .subAH, .subAL, .subAIndHl, .subAA]

/-- Opcodes 0x98 to 0x9F (R98 to R101). -/
def baseRow19 (_b1 _b2 : Byte) : List Instr :=
  [.sbcAB, .sbcAC, .sbcAD, .sbcAE, .sbcAH, .sbcAL, .sbcAIndHl, .sbcAA]

/-- Opcodes 0xA0 to 0xA7 (R98 to R101). -/
def baseRow20 (_b1 _b2 : Byte) : List Instr :=
  [.andAB, .andAC, .andAD, .andAE, .andAH, .andAL, .andAIndHl, .andAA]

/-- Opcodes 0xA8 to 0xAF (R98 to R101). -/
def baseRow21 (_b1 _b2 : Byte) : List Instr :=
  [.xorAB, .xorAC, .xorAD, .xorAE, .xorAH, .xorAL, .xorAIndHl, .xorAA]

/-- Opcodes 0xB0 to 0xB7 (R98 to R101). -/
def baseRow22 (_b1 _b2 : Byte) : List Instr :=
  [.orAB, .orAC, .orAD, .orAE, .orAH, .orAL, .orAIndHl, .orAA]

/-- Opcodes 0xB8 to 0xBF (R98 to R101). -/
def baseRow23 (_b1 _b2 : Byte) : List Instr :=
  [.cpAB, .cpAC, .cpAD, .cpAE, .cpAH, .cpAL, .cpAIndHl, .cpAA]

/-- Opcodes 0xC0 to 0xC7 (R98 to R101). -/
def baseRow24 (b1 b2 : Byte) : List Instr :=
  [.retNz, .popBc, .jpNzA16 (joinBytes b2 b1), .jpA16 (joinBytes b2 b1), .callNzA16 (joinBytes b2 b1), .pushBc, .addAD8 b1, .rst00]

/-- Opcodes 0xC8 to 0xCF (R98 to R101). -/
def baseRow25 (b1 b2 : Byte) : List Instr :=
  [.retZ, .ret, .jpZA16 (joinBytes b2 b1), .prefixCb, .callZA16 (joinBytes b2 b1), .callA16 (joinBytes b2 b1), .adcAD8 b1, .rst08]

/-- Opcodes 0xD0 to 0xD7 (R98 to R101). -/
def baseRow26 (b1 b2 : Byte) : List Instr :=
  [.retNc, .popDe, .jpNcA16 (joinBytes b2 b1), .illegalD3, .callNcA16 (joinBytes b2 b1), .pushDe, .subAD8 b1, .rst10]

/-- Opcodes 0xD8 to 0xDF (R98 to R101). -/
def baseRow27 (b1 b2 : Byte) : List Instr :=
  [.retC, .reti, .jpCA16 (joinBytes b2 b1), .illegalDB, .callCA16 (joinBytes b2 b1), .illegalDD, .sbcAD8 b1, .rst18]

/-- Opcodes 0xE0 to 0xE7 (R98 to R101). -/
def baseRow28 (b1 _b2 : Byte) : List Instr :=
  [.ldhIndA8A b1, .popHl, .ldhIndCA, .illegalE3, .illegalE4, .pushHl, .andAD8 b1, .rst20]

/-- Opcodes 0xE8 to 0xEF (R98 to R101). -/
def baseRow29 (b1 b2 : Byte) : List Instr :=
  [.addSpE8 b1, .jpHl, .ldIndA16A (joinBytes b2 b1), .illegalEB, .illegalEC, .illegalED, .xorAD8 b1, .rst28]

/-- Opcodes 0xF0 to 0xF7 (R98 to R101). -/
def baseRow30 (b1 _b2 : Byte) : List Instr :=
  [.ldhAIndA8 b1, .popAf, .ldhAIndC, .di, .illegalF4, .pushAf, .orAD8 b1, .rst30]

/-- Opcodes 0xF8 to 0xFF (R98 to R101). -/
def baseRow31 (b1 b2 : Byte) : List Instr :=
  [.ldHlSpE8 b1, .ldSpHl, .ldAIndA16 (joinBytes b2 b1), .ei, .illegalFC, .illegalFD, .cpAD8 b1, .rst38]

/-- The base table, eight opcodes a row in opcode order (R98 to R101). -/
def baseRows (b1 b2 : Byte) : List (List Instr) :=
  [baseRow00 b1 b2, baseRow01 b1 b2, baseRow02 b1 b2, baseRow03 b1 b2, baseRow04 b1 b2, baseRow05 b1 b2, baseRow06 b1 b2, baseRow07 b1 b2,
   baseRow08 b1 b2, baseRow09 b1 b2, baseRow10 b1 b2, baseRow11 b1 b2, baseRow12 b1 b2, baseRow13 b1 b2, baseRow14 b1 b2, baseRow15 b1 b2,
   baseRow16 b1 b2, baseRow17 b1 b2, baseRow18 b1 b2, baseRow19 b1 b2, baseRow20 b1 b2, baseRow21 b1 b2, baseRow22 b1 b2, baseRow23 b1 b2,
   baseRow24 b1 b2, baseRow25 b1 b2, baseRow26 b1 b2, baseRow27 b1 b2, baseRow28 b1 b2, baseRow29 b1 b2, baseRow30 b1 b2, baseRow31 b1 b2]

/-- Second bytes 0x00 to 0x07 (R102). -/
def extRow00 : List Instr :=
  [.cbRlcB, .cbRlcC, .cbRlcD, .cbRlcE, .cbRlcH, .cbRlcL, .cbRlcIndHl, .cbRlcA]

/-- Second bytes 0x08 to 0x0F (R102). -/
def extRow01 : List Instr :=
  [.cbRrcB, .cbRrcC, .cbRrcD, .cbRrcE, .cbRrcH, .cbRrcL, .cbRrcIndHl, .cbRrcA]

/-- Second bytes 0x10 to 0x17 (R102). -/
def extRow02 : List Instr :=
  [.cbRlB, .cbRlC, .cbRlD, .cbRlE, .cbRlH, .cbRlL, .cbRlIndHl, .cbRlA]

/-- Second bytes 0x18 to 0x1F (R102). -/
def extRow03 : List Instr :=
  [.cbRrB, .cbRrC, .cbRrD, .cbRrE, .cbRrH, .cbRrL, .cbRrIndHl, .cbRrA]

/-- Second bytes 0x20 to 0x27 (R102). -/
def extRow04 : List Instr :=
  [.cbSlaB, .cbSlaC, .cbSlaD, .cbSlaE, .cbSlaH, .cbSlaL, .cbSlaIndHl, .cbSlaA]

/-- Second bytes 0x28 to 0x2F (R102). -/
def extRow05 : List Instr :=
  [.cbSraB, .cbSraC, .cbSraD, .cbSraE, .cbSraH, .cbSraL, .cbSraIndHl, .cbSraA]

/-- Second bytes 0x30 to 0x37 (R102). -/
def extRow06 : List Instr :=
  [.cbSwapB, .cbSwapC, .cbSwapD, .cbSwapE, .cbSwapH, .cbSwapL, .cbSwapIndHl, .cbSwapA]

/-- Second bytes 0x38 to 0x3F (R102). -/
def extRow07 : List Instr :=
  [.cbSrlB, .cbSrlC, .cbSrlD, .cbSrlE, .cbSrlH, .cbSrlL, .cbSrlIndHl, .cbSrlA]

/-- Second bytes 0x40 to 0x47 (R102). -/
def extRow08 : List Instr :=
  [.cbBit0B, .cbBit0C, .cbBit0D, .cbBit0E, .cbBit0H, .cbBit0L, .cbBit0IndHl, .cbBit0A]

/-- Second bytes 0x48 to 0x4F (R102). -/
def extRow09 : List Instr :=
  [.cbBit1B, .cbBit1C, .cbBit1D, .cbBit1E, .cbBit1H, .cbBit1L, .cbBit1IndHl, .cbBit1A]

/-- Second bytes 0x50 to 0x57 (R102). -/
def extRow10 : List Instr :=
  [.cbBit2B, .cbBit2C, .cbBit2D, .cbBit2E, .cbBit2H, .cbBit2L, .cbBit2IndHl, .cbBit2A]

/-- Second bytes 0x58 to 0x5F (R102). -/
def extRow11 : List Instr :=
  [.cbBit3B, .cbBit3C, .cbBit3D, .cbBit3E, .cbBit3H, .cbBit3L, .cbBit3IndHl, .cbBit3A]

/-- Second bytes 0x60 to 0x67 (R102). -/
def extRow12 : List Instr :=
  [.cbBit4B, .cbBit4C, .cbBit4D, .cbBit4E, .cbBit4H, .cbBit4L, .cbBit4IndHl, .cbBit4A]

/-- Second bytes 0x68 to 0x6F (R102). -/
def extRow13 : List Instr :=
  [.cbBit5B, .cbBit5C, .cbBit5D, .cbBit5E, .cbBit5H, .cbBit5L, .cbBit5IndHl, .cbBit5A]

/-- Second bytes 0x70 to 0x77 (R102). -/
def extRow14 : List Instr :=
  [.cbBit6B, .cbBit6C, .cbBit6D, .cbBit6E, .cbBit6H, .cbBit6L, .cbBit6IndHl, .cbBit6A]

/-- Second bytes 0x78 to 0x7F (R102). -/
def extRow15 : List Instr :=
  [.cbBit7B, .cbBit7C, .cbBit7D, .cbBit7E, .cbBit7H, .cbBit7L, .cbBit7IndHl, .cbBit7A]

/-- Second bytes 0x80 to 0x87 (R102). -/
def extRow16 : List Instr :=
  [.cbRes0B, .cbRes0C, .cbRes0D, .cbRes0E, .cbRes0H, .cbRes0L, .cbRes0IndHl, .cbRes0A]

/-- Second bytes 0x88 to 0x8F (R102). -/
def extRow17 : List Instr :=
  [.cbRes1B, .cbRes1C, .cbRes1D, .cbRes1E, .cbRes1H, .cbRes1L, .cbRes1IndHl, .cbRes1A]

/-- Second bytes 0x90 to 0x97 (R102). -/
def extRow18 : List Instr :=
  [.cbRes2B, .cbRes2C, .cbRes2D, .cbRes2E, .cbRes2H, .cbRes2L, .cbRes2IndHl, .cbRes2A]

/-- Second bytes 0x98 to 0x9F (R102). -/
def extRow19 : List Instr :=
  [.cbRes3B, .cbRes3C, .cbRes3D, .cbRes3E, .cbRes3H, .cbRes3L, .cbRes3IndHl, .cbRes3A]

/-- Second bytes 0xA0 to 0xA7 (R102). -/
def extRow20 : List Instr :=
  [.cbRes4B, .cbRes4C, .cbRes4D, .cbRes4E, .cbRes4H, .cbRes4L, .cbRes4IndHl, .cbRes4A]

/-- Second bytes 0xA8 to 0xAF (R102). -/
def extRow21 : List Instr :=
  [.cbRes5B, .cbRes5C, .cbRes5D, .cbRes5E, .cbRes5H, .cbRes5L, .cbRes5IndHl, .cbRes5A]

/-- Second bytes 0xB0 to 0xB7 (R102). -/
def extRow22 : List Instr :=
  [.cbRes6B, .cbRes6C, .cbRes6D, .cbRes6E, .cbRes6H, .cbRes6L, .cbRes6IndHl, .cbRes6A]

/-- Second bytes 0xB8 to 0xBF (R102). -/
def extRow23 : List Instr :=
  [.cbRes7B, .cbRes7C, .cbRes7D, .cbRes7E, .cbRes7H, .cbRes7L, .cbRes7IndHl, .cbRes7A]

/-- Second bytes 0xC0 to 0xC7 (R102). -/
def extRow24 : List Instr :=
  [.cbSet0B, .cbSet0C, .cbSet0D, .cbSet0E, .cbSet0H, .cbSet0L, .cbSet0IndHl, .cbSet0A]

/-- Second bytes 0xC8 to 0xCF (R102). -/
def extRow25 : List Instr :=
  [.cbSet1B, .cbSet1C, .cbSet1D, .cbSet1E, .cbSet1H, .cbSet1L, .cbSet1IndHl, .cbSet1A]

/-- Second bytes 0xD0 to 0xD7 (R102). -/
def extRow26 : List Instr :=
  [.cbSet2B, .cbSet2C, .cbSet2D, .cbSet2E, .cbSet2H, .cbSet2L, .cbSet2IndHl, .cbSet2A]

/-- Second bytes 0xD8 to 0xDF (R102). -/
def extRow27 : List Instr :=
  [.cbSet3B, .cbSet3C, .cbSet3D, .cbSet3E, .cbSet3H, .cbSet3L, .cbSet3IndHl, .cbSet3A]

/-- Second bytes 0xE0 to 0xE7 (R102). -/
def extRow28 : List Instr :=
  [.cbSet4B, .cbSet4C, .cbSet4D, .cbSet4E, .cbSet4H, .cbSet4L, .cbSet4IndHl, .cbSet4A]

/-- Second bytes 0xE8 to 0xEF (R102). -/
def extRow29 : List Instr :=
  [.cbSet5B, .cbSet5C, .cbSet5D, .cbSet5E, .cbSet5H, .cbSet5L, .cbSet5IndHl, .cbSet5A]

/-- Second bytes 0xF0 to 0xF7 (R102). -/
def extRow30 : List Instr :=
  [.cbSet6B, .cbSet6C, .cbSet6D, .cbSet6E, .cbSet6H, .cbSet6L, .cbSet6IndHl, .cbSet6A]

/-- Second bytes 0xF8 to 0xFF (R102). -/
def extRow31 : List Instr :=
  [.cbSet7B, .cbSet7C, .cbSet7D, .cbSet7E, .cbSet7H, .cbSet7L, .cbSet7IndHl, .cbSet7A]

/-- The extended table, eight opcodes a row in opcode order (R102). -/
def extRows : List (List Instr) :=
  [extRow00, extRow01, extRow02, extRow03, extRow04, extRow05, extRow06, extRow07,
   extRow08, extRow09, extRow10, extRow11, extRow12, extRow13, extRow14, extRow15,
   extRow16, extRow17, extRow18, extRow19, extRow20, extRow21, extRow22, extRow23,
   extRow24, extRow25, extRow26, extRow27, extRow28, extRow29, extRow30, extRow31]

/-- The instruction of a base opcode with operand bytes `b1`, `b2` (R106). Every value has a row (R103, R127). -/
def baseInstr (op b1 b2 : Byte) : Instr :=
  ((baseRows b1 b2).getD (op.toNat / 8) []).getD (op.toNat % 8) .nop

/-- The instruction of a second byte after the table-selecting byte (R102). Every value has a row (R105). -/
def extInstr (op2 : Byte) : Instr :=
  (extRows.getD (op2.toNat / 8) []).getD (op2.toNat % 8) .cbRlcB

/-- Which operation of the rules a table row is, and with which operand selectors (R94 to R97, R98 to R102, R104;
the `fields` of opcode_table.json). -/
def Instr.form : Instr → Form
  | .nop => .nop
  | .ldBcD16 n => .ldPairImm .bc n
  | .ldIndBcA => .ldIndA .bc
  | .incBc => .incPair .bc
  | .incB => .incReg .b
  | .decB => .decReg .b
  | .ldBD8 n => .ldRegImm .b n
  | .rlca => .accRot .rlca
  | .ldIndA16Sp a => .ldAbsSp a
  | .addHlBc => .addHlPair .bc
  | .ldAIndBc => .ldAInd .bc
  | .decBc => .decPair .bc
  | .incC => .incReg .c
  | .decC => .decReg .c
  | .ldCD8 n => .ldRegImm .c n
  | .rrca => .accRot .rrca
  | .stop => .stop
  | .ldDeD16 n => .ldPairImm .de n
  | .ldIndDeA => .ldIndA .de
  | .incDe => .incPair .de
  | .incD => .incReg .d
  | .decD => .decReg .d
  | .ldDD8 n => .ldRegImm .d n
  | .rla => .accRot .rla
  | .jrE8 e => .jr e
  | .addHlDe => .addHlPair .de
  | .ldAIndDe => .ldAInd .de
  | .decDe => .decPair .de
  | .incE => .incReg .e
  | .decE => .decReg .e
  | .ldED8 n => .ldRegImm .e n
  | .rra => .accRot .rra
  | .jrNzE8 e => .jrCond .nz e
  | .ldHlD16 n => .ldPairImm .hl n
  | .ldIndHlIncA => .ldIndA .hlInc
  | .incHl => .incPair .hl
  | .incH => .incReg .h
  | .decH => .decReg .h
  | .ldHD8 n => .ldRegImm .h n
  | .daa => .daa
  | .jrZE8 e => .jrCond .z e
  | .addHlHl => .addHlPair .hl
  | .ldAIndHlInc => .ldAInd .hlInc
  | .decHl => .decPair .hl
  | .incL => .incReg .l
  | .decL => .decReg .l
  | .ldLD8 n => .ldRegImm .l n
  | .cpl => .cpl
  | .jrNcE8 e => .jrCond .nc e
  | .ldSpD16 n => .ldPairImm .sp n
  | .ldIndHlDecA => .ldIndA .hlDec
  | .incSp => .incPair .sp
  | .incIndHl => .incHl
  | .decIndHl => .decHl
  | .ldIndHlD8 n => .ldHlImm n
  | .scf => .scf
  | .jrCE8 e => .jrCond .c e
  | .addHlSp => .addHlPair .sp
  | .ldAIndHlDec => .ldAInd .hlDec
  | .decSp => .decPair .sp
  | .incA => .incReg .a
  | .decA => .decReg .a
  | .ldAD8 n => .ldRegImm .a n
  | .ccf => .ccf
  | .ldBB => .ldRegReg .b .b
  | .ldBC => .ldRegReg .b .c
  | .ldBD => .ldRegReg .b .d
  | .ldBE => .ldRegReg .b .e
  | .ldBH => .ldRegReg .b .h
  | .ldBL => .ldRegReg .b .l
  | .ldBIndHl => .ldRegHl .b
  | .ldBA => .ldRegReg .b .a
  | .ldCB => .ldRegReg .c .b
  | .ldCC => .ldRegReg .c .c
  | .ldCD => .ldRegReg .c .d
  | .ldCE => .ldRegReg .c .e
  | .ldCH => .ldRegReg .c .h
  | .ldCL => .ldRegReg .c .l
  | .ldCIndHl => .ldRegHl .c
  | .ldCA => .ldRegReg .c .a
  | .ldDB => .ldRegReg .d .b
  | .ldDC => .ldRegReg .d .c
  | .ldDD => .ldRegReg .d .d
  | .ldDE => .ldRegReg .d .e
  | .ldDH => .ldRegReg .d .h
  | .ldDL => .ldRegReg .d .l
  | .ldDIndHl => .ldRegHl .d
  | .ldDA => .ldRegReg .d .a
  | .ldEB => .ldRegReg .e .b
  | .ldEC => .ldRegReg .e .c
  | .ldED => .ldRegReg .e .d
  | .ldEE => .ldRegReg .e .e
  | .ldEH => .ldRegReg .e .h
  | .ldEL => .ldRegReg .e .l
  | .ldEIndHl => .ldRegHl .e
  | .ldEA => .ldRegReg .e .a
  | .ldHB => .ldRegReg .h .b
  | .ldHC => .ldRegReg .h .c
  | .ldHD => .ldRegReg .h .d
  | .ldHE => .ldRegReg .h .e
  | .ldHH => .ldRegReg .h .h
  | .ldHL => .ldRegReg .h .l
  | .ldHIndHl => .ldRegHl .h
  | .ldHA => .ldRegReg .h .a
  | .ldLB => .ldRegReg .l .b
  | .ldLC => .ldRegReg .l .c
  | .ldLD => .ldRegReg .l .d
  | .ldLE => .ldRegReg .l .e
  | .ldLH => .ldRegReg .l .h
  | .ldLL => .ldRegReg .l .l
  | .ldLIndHl => .ldRegHl .l
  | .ldLA => .ldRegReg .l .a
  | .ldIndHlB => .ldHlReg .b
  | .ldIndHlC => .ldHlReg .c
  | .ldIndHlD => .ldHlReg .d
  | .ldIndHlE => .ldHlReg .e
  | .ldIndHlH => .ldHlReg .h
  | .ldIndHlL => .ldHlReg .l
  | .halt => .halt
  | .ldIndHlA => .ldHlReg .a
  | .ldAB => .ldRegReg .a .b
  | .ldAC => .ldRegReg .a .c
  | .ldAD => .ldRegReg .a .d
  | .ldAE => .ldRegReg .a .e
  | .ldAH => .ldRegReg .a .h
  | .ldAL => .ldRegReg .a .l
  | .ldAIndHl => .ldRegHl .a
  | .ldAA => .ldRegReg .a .a
  | .addAB => .aluReg .add .b
  | .addAC => .aluReg .add .c
  | .addAD => .aluReg .add .d
  | .addAE => .aluReg .add .e
  | .addAH => .aluReg .add .h
  | .addAL => .aluReg .add .l
  | .addAIndHl => .aluHl .add
  | .addAA => .aluReg .add .a
  | .adcAB => .aluReg .adc .b
  | .adcAC => .aluReg .adc .c
  | .adcAD => .aluReg .adc .d
  | .adcAE => .aluReg .adc .e
  | .adcAH => .aluReg .adc .h
  | .adcAL => .aluReg .adc .l
  | .adcAIndHl => .aluHl .adc
  | .adcAA => .aluReg .adc .a
  | .subAB => .aluReg .sub .b
  | .subAC => .aluReg .sub .c
  | .subAD => .aluReg .sub .d
  | .subAE => .aluReg .sub .e
  | .subAH => .aluReg .sub .h
  | .subAL => .aluReg .sub .l
  | .subAIndHl => .aluHl .sub
  | .subAA => .aluReg .sub .a
  | .sbcAB => .aluReg .sbc .b
  | .sbcAC => .aluReg .sbc .c
  | .sbcAD => .aluReg .sbc .d
  | .sbcAE => .aluReg .sbc .e
  | .sbcAH => .aluReg .sbc .h
  | .sbcAL => .aluReg .sbc .l
  | .sbcAIndHl => .aluHl .sbc
  | .sbcAA => .aluReg .sbc .a
  | .andAB => .aluReg .and .b
  | .andAC => .aluReg .and .c
  | .andAD => .aluReg .and .d
  | .andAE => .aluReg .and .e
  | .andAH => .aluReg .and .h
  | .andAL => .aluReg .and .l
  | .andAIndHl => .aluHl .and
  | .andAA => .aluReg .and .a
  | .xorAB => .aluReg .xor .b
  | .xorAC => .aluReg .xor .c
  | .xorAD => .aluReg .xor .d
  | .xorAE => .aluReg .xor .e
  | .xorAH => .aluReg .xor .h
  | .xorAL => .aluReg .xor .l
  | .xorAIndHl => .aluHl .xor
  | .xorAA => .aluReg .xor .a
  | .orAB => .aluReg .or .b
  | .orAC => .aluReg .or .c
  | .orAD => .aluReg .or .d
  | .orAE => .aluReg .or .e
  | .orAH => .aluReg .or .h
  | .orAL => .aluReg .or .l
  | .orAIndHl => .aluHl .or
  | .orAA => .aluReg .or .a
  | .cpAB => .aluReg .cp .b
  | .cpAC => .aluReg .cp .c
  | .cpAD => .aluReg .cp .d
  | .cpAE => .aluReg .cp .e
  | .cpAH => .aluReg .cp .h
  | .cpAL => .aluReg .cp .l
  | .cpAIndHl => .aluHl .cp
  | .cpAA => .aluReg .cp .a
  | .retNz => .retCond .nz
  | .popBc => .pop .bc
  | .jpNzA16 a => .jpCond .nz a
  | .jpA16 a => .jp a
  | .callNzA16 a => .callCond .nz a
  | .pushBc => .push .bc
  | .addAD8 n => .aluImm .add n
  | .rst00 => .rst 0
  | .retZ => .retCond .z
  | .ret => .ret
  | .jpZA16 a => .jpCond .z a
  | .prefixCb => .cbTable
  | .callZA16 a => .callCond .z a
  | .callA16 a => .call a
  | .adcAD8 n => .aluImm .adc n
  | .rst08 => .rst 1
  | .retNc => .retCond .nc
  | .popDe => .pop .de
  | .jpNcA16 a => .jpCond .nc a
  | .illegalD3 => .unassigned 0xD3
  | .callNcA16 a => .callCond .nc a
  | .pushDe => .push .de
  | .subAD8 n => .aluImm .sub n
  | .rst10 => .rst 2
  | .retC => .retCond .c
  | .reti => .reti
  | .jpCA16 a => .jpCond .c a
  | .illegalDB => .unassigned 0xDB
  | .callCA16 a => .callCond .c a
  | .illegalDD => .unassigned 0xDD
  | .sbcAD8 n => .aluImm .sbc n
  | .rst18 => .rst 3
  | .ldhIndA8A a => .ldhImmA a
  | .popHl => .pop .hl
  | .ldhIndCA => .ldhCA
  | .illegalE3 => .unassigned 0xE3
  | .illegalE4 => .unassigned 0xE4
  | .pushHl => .push .hl
  | .andAD8 n => .aluImm .and n
  | .rst20 => .rst 4
  | .addSpE8 e => .addSpE e
  | .jpHl => .jpHl
  | .ldIndA16A a => .ldAbsA a
  | .illegalEB => .unassigned 0xEB
  | .illegalEC => .unassigned 0xEC
  | .illegalED => .unassigned 0xED
  | .xorAD8 n => .aluImm .xor n
  | .rst28 => .rst 5
  | .ldhAIndA8 a => .ldhAImm a
  | .popAf => .pop .af
  | .ldhAIndC => .ldhAC
  | .di => .di
  | .illegalF4 => .unassigned 0xF4
  | .pushAf => .push .af
  | .orAD8 n => .aluImm .or n
  | .rst30 => .rst 6
  | .ldHlSpE8 e => .ldHlSpE e
  | .ldSpHl => .ldSpHl
  | .ldAIndA16 a => .ldAAbs a
  | .ei => .ei
  | .illegalFC => .unassigned 0xFC
  | .illegalFD => .unassigned 0xFD
  | .cpAD8 n => .aluImm .cp n
  | .rst38 => .rst 7
  | .cbRlcB => .rotReg .rlc .b
  | .cbRlcC => .rotReg .rlc .c
  | .cbRlcD => .rotReg .rlc .d
  | .cbRlcE => .rotReg .rlc .e
  | .cbRlcH => .rotReg .rlc .h
  | .cbRlcL => .rotReg .rlc .l
  | .cbRlcIndHl => .rotHl .rlc
  | .cbRlcA => .rotReg .rlc .a
  | .cbRrcB => .rotReg .rrc .b
  | .cbRrcC => .rotReg .rrc .c
  | .cbRrcD => .rotReg .rrc .d
  | .cbRrcE => .rotReg .rrc .e
  | .cbRrcH => .rotReg .rrc .h
  | .cbRrcL => .rotReg .rrc .l
  | .cbRrcIndHl => .rotHl .rrc
  | .cbRrcA => .rotReg .rrc .a
  | .cbRlB => .rotReg .rl .b
  | .cbRlC => .rotReg .rl .c
  | .cbRlD => .rotReg .rl .d
  | .cbRlE => .rotReg .rl .e
  | .cbRlH => .rotReg .rl .h
  | .cbRlL => .rotReg .rl .l
  | .cbRlIndHl => .rotHl .rl
  | .cbRlA => .rotReg .rl .a
  | .cbRrB => .rotReg .rr .b
  | .cbRrC => .rotReg .rr .c
  | .cbRrD => .rotReg .rr .d
  | .cbRrE => .rotReg .rr .e
  | .cbRrH => .rotReg .rr .h
  | .cbRrL => .rotReg .rr .l
  | .cbRrIndHl => .rotHl .rr
  | .cbRrA => .rotReg .rr .a
  | .cbSlaB => .rotReg .sla .b
  | .cbSlaC => .rotReg .sla .c
  | .cbSlaD => .rotReg .sla .d
  | .cbSlaE => .rotReg .sla .e
  | .cbSlaH => .rotReg .sla .h
  | .cbSlaL => .rotReg .sla .l
  | .cbSlaIndHl => .rotHl .sla
  | .cbSlaA => .rotReg .sla .a
  | .cbSraB => .rotReg .sra .b
  | .cbSraC => .rotReg .sra .c
  | .cbSraD => .rotReg .sra .d
  | .cbSraE => .rotReg .sra .e
  | .cbSraH => .rotReg .sra .h
  | .cbSraL => .rotReg .sra .l
  | .cbSraIndHl => .rotHl .sra
  | .cbSraA => .rotReg .sra .a
  | .cbSwapB => .rotReg .swap .b
  | .cbSwapC => .rotReg .swap .c
  | .cbSwapD => .rotReg .swap .d
  | .cbSwapE => .rotReg .swap .e
  | .cbSwapH => .rotReg .swap .h
  | .cbSwapL => .rotReg .swap .l
  | .cbSwapIndHl => .rotHl .swap
  | .cbSwapA => .rotReg .swap .a
  | .cbSrlB => .rotReg .srl .b
  | .cbSrlC => .rotReg .srl .c
  | .cbSrlD => .rotReg .srl .d
  | .cbSrlE => .rotReg .srl .e
  | .cbSrlH => .rotReg .srl .h
  | .cbSrlL => .rotReg .srl .l
  | .cbSrlIndHl => .rotHl .srl
  | .cbSrlA => .rotReg .srl .a
  | .cbBit0B => .bitReg 0 .b
  | .cbBit0C => .bitReg 0 .c
  | .cbBit0D => .bitReg 0 .d
  | .cbBit0E => .bitReg 0 .e
  | .cbBit0H => .bitReg 0 .h
  | .cbBit0L => .bitReg 0 .l
  | .cbBit0IndHl => .bitHl 0
  | .cbBit0A => .bitReg 0 .a
  | .cbBit1B => .bitReg 1 .b
  | .cbBit1C => .bitReg 1 .c
  | .cbBit1D => .bitReg 1 .d
  | .cbBit1E => .bitReg 1 .e
  | .cbBit1H => .bitReg 1 .h
  | .cbBit1L => .bitReg 1 .l
  | .cbBit1IndHl => .bitHl 1
  | .cbBit1A => .bitReg 1 .a
  | .cbBit2B => .bitReg 2 .b
  | .cbBit2C => .bitReg 2 .c
  | .cbBit2D => .bitReg 2 .d
  | .cbBit2E => .bitReg 2 .e
  | .cbBit2H => .bitReg 2 .h
  | .cbBit2L => .bitReg 2 .l
  | .cbBit2IndHl => .bitHl 2
  | .cbBit2A => .bitReg 2 .a
  | .cbBit3B => .bitReg 3 .b
  | .cbBit3C => .bitReg 3 .c
  | .cbBit3D => .bitReg 3 .d
  | .cbBit3E => .bitReg 3 .e
  | .cbBit3H => .bitReg 3 .h
  | .cbBit3L => .bitReg 3 .l
  | .cbBit3IndHl => .bitHl 3
  | .cbBit3A => .bitReg 3 .a
  | .cbBit4B => .bitReg 4 .b
  | .cbBit4C => .bitReg 4 .c
  | .cbBit4D => .bitReg 4 .d
  | .cbBit4E => .bitReg 4 .e
  | .cbBit4H => .bitReg 4 .h
  | .cbBit4L => .bitReg 4 .l
  | .cbBit4IndHl => .bitHl 4
  | .cbBit4A => .bitReg 4 .a
  | .cbBit5B => .bitReg 5 .b
  | .cbBit5C => .bitReg 5 .c
  | .cbBit5D => .bitReg 5 .d
  | .cbBit5E => .bitReg 5 .e
  | .cbBit5H => .bitReg 5 .h
  | .cbBit5L => .bitReg 5 .l
  | .cbBit5IndHl => .bitHl 5
  | .cbBit5A => .bitReg 5 .a
  | .cbBit6B => .bitReg 6 .b
  | .cbBit6C => .bitReg 6 .c
  | .cbBit6D => .bitReg 6 .d
  | .cbBit6E => .bitReg 6 .e
  | .cbBit6H => .bitReg 6 .h
  | .cbBit6L => .bitReg 6 .l
  | .cbBit6IndHl => .bitHl 6
  | .cbBit6A => .bitReg 6 .a
  | .cbBit7B => .bitReg 7 .b
  | .cbBit7C => .bitReg 7 .c
  | .cbBit7D => .bitReg 7 .d
  | .cbBit7E => .bitReg 7 .e
  | .cbBit7H => .bitReg 7 .h
  | .cbBit7L => .bitReg 7 .l
  | .cbBit7IndHl => .bitHl 7
  | .cbBit7A => .bitReg 7 .a
  | .cbRes0B => .resReg 0 .b
  | .cbRes0C => .resReg 0 .c
  | .cbRes0D => .resReg 0 .d
  | .cbRes0E => .resReg 0 .e
  | .cbRes0H => .resReg 0 .h
  | .cbRes0L => .resReg 0 .l
  | .cbRes0IndHl => .resHl 0
  | .cbRes0A => .resReg 0 .a
  | .cbRes1B => .resReg 1 .b
  | .cbRes1C => .resReg 1 .c
  | .cbRes1D => .resReg 1 .d
  | .cbRes1E => .resReg 1 .e
  | .cbRes1H => .resReg 1 .h
  | .cbRes1L => .resReg 1 .l
  | .cbRes1IndHl => .resHl 1
  | .cbRes1A => .resReg 1 .a
  | .cbRes2B => .resReg 2 .b
  | .cbRes2C => .resReg 2 .c
  | .cbRes2D => .resReg 2 .d
  | .cbRes2E => .resReg 2 .e
  | .cbRes2H => .resReg 2 .h
  | .cbRes2L => .resReg 2 .l
  | .cbRes2IndHl => .resHl 2
  | .cbRes2A => .resReg 2 .a
  | .cbRes3B => .resReg 3 .b
  | .cbRes3C => .resReg 3 .c
  | .cbRes3D => .resReg 3 .d
  | .cbRes3E => .resReg 3 .e
  | .cbRes3H => .resReg 3 .h
  | .cbRes3L => .resReg 3 .l
  | .cbRes3IndHl => .resHl 3
  | .cbRes3A => .resReg 3 .a
  | .cbRes4B => .resReg 4 .b
  | .cbRes4C => .resReg 4 .c
  | .cbRes4D => .resReg 4 .d
  | .cbRes4E => .resReg 4 .e
  | .cbRes4H => .resReg 4 .h
  | .cbRes4L => .resReg 4 .l
  | .cbRes4IndHl => .resHl 4
  | .cbRes4A => .resReg 4 .a
  | .cbRes5B => .resReg 5 .b
  | .cbRes5C => .resReg 5 .c
  | .cbRes5D => .resReg 5 .d
  | .cbRes5E => .resReg 5 .e
  | .cbRes5H => .resReg 5 .h
  | .cbRes5L => .resReg 5 .l
  | .cbRes5IndHl => .resHl 5
  | .cbRes5A => .resReg 5 .a
  | .cbRes6B => .resReg 6 .b
  | .cbRes6C => .resReg 6 .c
  | .cbRes6D => .resReg 6 .d
  | .cbRes6E => .resReg 6 .e
  | .cbRes6H => .resReg 6 .h
  | .cbRes6L => .resReg 6 .l
  | .cbRes6IndHl => .resHl 6
  | .cbRes6A => .resReg 6 .a
  | .cbRes7B => .resReg 7 .b
  | .cbRes7C => .resReg 7 .c
  | .cbRes7D => .resReg 7 .d
  | .cbRes7E => .resReg 7 .e
  | .cbRes7H => .resReg 7 .h
  | .cbRes7L => .resReg 7 .l
  | .cbRes7IndHl => .resHl 7
  | .cbRes7A => .resReg 7 .a
  | .cbSet0B => .setReg 0 .b
  | .cbSet0C => .setReg 0 .c
  | .cbSet0D => .setReg 0 .d
  | .cbSet0E => .setReg 0 .e
  | .cbSet0H => .setReg 0 .h
  | .cbSet0L => .setReg 0 .l
  | .cbSet0IndHl => .setHl 0
  | .cbSet0A => .setReg 0 .a
  | .cbSet1B => .setReg 1 .b
  | .cbSet1C => .setReg 1 .c
  | .cbSet1D => .setReg 1 .d
  | .cbSet1E => .setReg 1 .e
  | .cbSet1H => .setReg 1 .h
  | .cbSet1L => .setReg 1 .l
  | .cbSet1IndHl => .setHl 1
  | .cbSet1A => .setReg 1 .a
  | .cbSet2B => .setReg 2 .b
  | .cbSet2C => .setReg 2 .c
  | .cbSet2D => .setReg 2 .d
  | .cbSet2E => .setReg 2 .e
  | .cbSet2H => .setReg 2 .h
  | .cbSet2L => .setReg 2 .l
  | .cbSet2IndHl => .setHl 2
  | .cbSet2A => .setReg 2 .a
  | .cbSet3B => .setReg 3 .b
  | .cbSet3C => .setReg 3 .c
  | .cbSet3D => .setReg 3 .d
  | .cbSet3E => .setReg 3 .e
  | .cbSet3H => .setReg 3 .h
  | .cbSet3L => .setReg 3 .l
  | .cbSet3IndHl => .setHl 3
  | .cbSet3A => .setReg 3 .a
  | .cbSet4B => .setReg 4 .b
  | .cbSet4C => .setReg 4 .c
  | .cbSet4D => .setReg 4 .d
  | .cbSet4E => .setReg 4 .e
  | .cbSet4H => .setReg 4 .h
  | .cbSet4L => .setReg 4 .l
  | .cbSet4IndHl => .setHl 4
  | .cbSet4A => .setReg 4 .a
  | .cbSet5B => .setReg 5 .b
  | .cbSet5C => .setReg 5 .c
  | .cbSet5D => .setReg 5 .d
  | .cbSet5E => .setReg 5 .e
  | .cbSet5H => .setReg 5 .h
  | .cbSet5L => .setReg 5 .l
  | .cbSet5IndHl => .setHl 5
  | .cbSet5A => .setReg 5 .a
  | .cbSet6B => .setReg 6 .b
  | .cbSet6C => .setReg 6 .c
  | .cbSet6D => .setReg 6 .d
  | .cbSet6E => .setReg 6 .e
  | .cbSet6H => .setReg 6 .h
  | .cbSet6L => .setReg 6 .l
  | .cbSet6IndHl => .setHl 6
  | .cbSet6A => .setReg 6 .a
  | .cbSet7B => .setReg 7 .b
  | .cbSet7C => .setReg 7 .c
  | .cbSet7D => .setReg 7 .d
  | .cbSet7E => .setReg 7 .e
  | .cbSet7H => .setReg 7 .h
  | .cbSet7L => .setReg 7 .l
  | .cbSet7IndHl => .setHl 7
  | .cbSet7A => .setReg 7 .a

/-! ### Formats and lengths (R92, R106) -/

/-- The format of an operation (R98 to R102). -/
def Form.format : Form → Format
  | .ldRegImm _ _ | .ldHlImm _ | .aluImm _ _ => .opD8
  | .ldhAImm _ | .ldhImmA _ => .opA8
  | .ldHlSpE _ | .addSpE _ | .jr _ | .jrCond _ _ => .opE8
  | .ldAAbs _ | .ldAbsA _ | .ldPairImm _ _ | .ldAbsSp _ | .jp _ | .jpCond _ _ | .call _ | .callCond _ _ => .opD16
  | .rotReg _ _ | .rotHl _ | .bitReg _ _ | .bitHl _ | .resReg _ _ | .resHl _ | .setReg _ _ | .setHl _ => .cbOp
  | .nop | .stop | .halt | .di | .ei | .cbTable | .unassigned _ | .ldRegReg _ _ | .ldRegHl _ | .ldHlReg _ | .ldAInd _
  | .ldIndA _ | .ldhAC | .ldhCA | .ldSpHl | .push _ | .pop _ | .aluReg _ _ | .aluHl _ | .incReg _ | .incHl | .decReg _
  | .decHl | .daa | .cpl | .scf | .ccf | .addHlPair _ | .incPair _ | .decPair _ | .accRot _ | .jpHl | .ret | .retCond _
  | .reti | .rst _ => .op

/-- How many bytes follow the first byte (R92). -/
def Format.bytesAfterFirst : Format → Nat
  | .op => 0
  | .opD8 | .opA8 | .opE8 | .cbOp => 1
  | .opD16 => 2

/-- How many bytes follow a first byte `op`: one more opcode after the table-selecting byte, else what the base row's
format says (R106). -/
def bytesAfter (op : Byte) : Nat :=
  if op = Config.cbByte then 1 else (baseInstr op 0 0).form.format.bytesAfterFirst

/-- The instruction whose first byte is `op` and whose following bytes, as many as `bytesAfter op` says, are `b1`, `b2`
(R106). -/
def instrOfBytes (op b1 b2 : Byte) : Instr :=
  if op = Config.cbByte then extInstr b1 else baseInstr op b1 b2

/-- Why bytes decode to no instruction: the table is exhaustive (R103), so only because bytes are missing. -/
inductive DecodeError where
  /-- There is no byte at all. -/
  | noBytes
  /-- `missing` operand bytes of the instruction whose first byte is `op` are absent. -/
  | truncated (op : Byte) (missing : Nat)
  deriving DecidableEq, Repr

/-- Decode one instruction from the front of a list of bytes, in stream order (R90, R106): the instruction and the bytes
after it, or a named reason. The table-selecting byte with nothing after it is the base table's own row for that byte
(R310), which is what a Fetch cycle sees of it. -/
def decode : List Byte → Except DecodeError (Instr × List Byte)
  | [] => .error .noBytes
  | op :: rest =>
    if op = Config.cbByte ∧ rest = [] then .ok (.prefixCb, [])
    else
      match bytesAfter op, rest with
      | 0, rest => .ok (instrOfBytes op 0 0, rest)
      | 1, b1 :: rest => .ok (instrOfBytes op b1 0, rest)
      | 2, b1 :: b2 :: rest => .ok (instrOfBytes op b1 b2, rest)
      | k, rest => .error (.truncated op (k - rest.length))

/-! ### Encoding, from the field layouts -/

/-- The field value of an 8-bit register (R94). -/
def Reg8.code : Reg8 → BitVec 3
  | .b => 0 | .c => 1 | .d => 2 | .e => 3 | .h => 4 | .l => 5 | .a => 7

/-- The field value of the memory operand `(HL)` (R94). -/
def hlCode : BitVec 3 := 6

/-- The field `p` in table `rr` (R95). -/
def Reg16.code : Reg16 → BitVec 2
  | .bc => 0 | .de => 1 | .hl => 2 | .sp => 3

/-- The field `p` in table `rr2` (R95). -/
def StackReg.code : StackReg → BitVec 2
  | .bc => 0 | .de => 1 | .hl => 2 | .af => 3

/-- The field `p` of the indirect-load group (R95). -/
def IndPtr.code : IndPtr → BitVec 2
  | .bc => 0 | .de => 1 | .hlInc => 2 | .hlDec => 3

/-- The condition field (R96). -/
def Cond.code : Cond → BitVec 2
  | .nz => 0 | .z => 1 | .nc => 2 | .c => 3

/-- The ALU operation field (R97). -/
def AluOp.code : AluOp → BitVec 3
  | .add => 0 | .adc => 1 | .sub => 2 | .sbc => 3 | .and => 4 | .xor => 5 | .or => 6 | .cp => 7

/-- The extended rotate and shift operation field (R97). -/
def RotOp.code : RotOp → BitVec 3
  | .rlc => 0 | .rrc => 1 | .rl => 2 | .rr => 3 | .sla => 4 | .sra => 5 | .swap => 6 | .srl => 7

/-- The accumulator operation field of the four rotates (R97). -/
def AccRotOp.code : AccRotOp → BitVec 3
  | .rlca => 0 | .rrca => 1 | .rla => 2 | .rra => 3

/-- An opcode byte from its fields `x = op[7:6]`, `y = op[5:3]`, `z = op[2:0]` (R91). -/
def opXYZ (x : BitVec 2) (y z : BitVec 3) : Byte := x ++ y ++ z

/-- An opcode byte from its fields `x`, `p = op[5:4]`, `q = op[3]`, `z` (R91). -/
def opXPQZ (x p : BitVec 2) (q : BitVec 1) (z : BitVec 3) : Byte := x ++ p ++ q ++ z

/-- An opcode byte with a condition field below a constant bit 5 (R98, R101: `JR cc`, `JP cc`, `CALL cc`, `RET cc`). -/
def opXCC (x : BitVec 2) (top : BitVec 1) (cc : BitVec 2) (z : BitVec 3) : Byte := x ++ top ++ cc ++ z

/-- The bytes of an operation in stream order (R92, R93, R98 to R102). -/
def Form.encode : Form → List Byte
  | .nop => [opXYZ 0 0 0]
  | .ldAbsSp a => [opXYZ 0 1 0, loByte a, hiByte a]
  | .stop => [opXYZ 0 2 0]
  | .jr e => [opXYZ 0 3 0, e]
  | .jrCond cc e => [opXCC 0 1 cc.code 0, e]
  | .ldPairImm rr n => [opXPQZ 0 rr.code 0 1, loByte n, hiByte n]
  | .addHlPair rr => [opXPQZ 0 rr.code 1 1]
  | .ldIndA p => [opXPQZ 0 p.code 0 2]
  | .ldAInd p => [opXPQZ 0 p.code 1 2]
  | .incPair rr => [opXPQZ 0 rr.code 0 3]
  | .decPair rr => [opXPQZ 0 rr.code 1 3]
  | .incReg r => [opXYZ 0 r.code 4]
  | .incHl => [opXYZ 0 hlCode 4]
  | .decReg r => [opXYZ 0 r.code 5]
  | .decHl => [opXYZ 0 hlCode 5]
  | .ldRegImm r n => [opXYZ 0 r.code 6, n]
  | .ldHlImm n => [opXYZ 0 hlCode 6, n]
  | .accRot op => [opXYZ 0 op.code 7]
  | .daa => [opXYZ 0 4 7]
  | .cpl => [opXYZ 0 5 7]
  | .scf => [opXYZ 0 6 7]
  | .ccf => [opXYZ 0 7 7]
  | .ldRegReg r r' => [opXYZ 1 r.code r'.code]
  | .ldRegHl r => [opXYZ 1 r.code hlCode]
  | .ldHlReg r => [opXYZ 1 hlCode r.code]
  | .halt => [opXYZ 1 hlCode hlCode]
  | .aluReg op r => [opXYZ 2 op.code r.code]
  | .aluHl op => [opXYZ 2 op.code hlCode]
  | .retCond cc => [opXCC 3 0 cc.code 0]
  | .ldhImmA a => [opXYZ 3 4 0, a]
  | .addSpE e => [opXYZ 3 5 0, e]
  | .ldhAImm a => [opXYZ 3 6 0, a]
  | .ldHlSpE e => [opXYZ 3 7 0, e]
  | .pop rr => [opXPQZ 3 rr.code 0 1]
  | .ret => [opXPQZ 3 0 1 1]
  | .reti => [opXPQZ 3 1 1 1]
  | .jpHl => [opXPQZ 3 2 1 1]
  | .ldSpHl => [opXPQZ 3 3 1 1]
  | .jpCond cc a => [opXCC 3 0 cc.code 2, loByte a, hiByte a]
  | .ldhCA => [opXYZ 3 4 2]
  | .ldAbsA a => [opXYZ 3 5 2, loByte a, hiByte a]
  | .ldhAC => [opXYZ 3 6 2]
  | .ldAAbs a => [opXYZ 3 7 2, loByte a, hiByte a]
  | .jp a => [opXYZ 3 0 3, loByte a, hiByte a]
  | .cbTable => [opXYZ 3 1 3]
  | .di => [opXYZ 3 6 3]
  | .ei => [opXYZ 3 7 3]
  | .callCond cc a => [opXCC 3 0 cc.code 4, loByte a, hiByte a]
  | .push rr => [opXPQZ 3 rr.code 0 5]
  | .call a => [opXPQZ 3 0 1 5, loByte a, hiByte a]
  | .aluImm op n => [opXYZ 3 op.code 6, n]
  | .rst t => [opXYZ 3 t 7]
  | .unassigned op => [op]
  | .rotReg op r => [Config.cbByte, opXYZ 0 op.code r.code]
  | .rotHl op => [Config.cbByte, opXYZ 0 op.code hlCode]
  | .bitReg b r => [Config.cbByte, opXYZ 1 b r.code]
  | .bitHl b => [Config.cbByte, opXYZ 1 b hlCode]
  | .resReg b r => [Config.cbByte, opXYZ 2 b r.code]
  | .resHl b => [Config.cbByte, opXYZ 2 b hlCode]
  | .setReg b r => [Config.cbByte, opXYZ 3 b r.code]
  | .setHl b => [Config.cbByte, opXYZ 3 b hlCode]

/-- The bytes of an instruction in stream order. -/
def encode (i : Instr) : List Byte := i.form.encode

/-! ### The host's numbering of a table row's bits -/

/-- The three bytes, in stream order, that a number `w` of `nbits` bits stands for. A base row's number has its first byte
lowest. The table prints an extended row as byte 0 :: byte 1 (R109), so a number of exactly 16 bits whose upper byte is the
table-selecting byte is read in that order (log 12). Bits above `nbits` are 0. -/
def tableWordBytes (nbits w : Nat) : List Byte :=
  let v := w % 2 ^ nbits
  let b0 := BitVec.ofNat 8 v
  let b1 := BitVec.ofNat 8 (v / 256)
  let b2 := BitVec.ofNat 8 (v / 65536)
  if nbits = 16 ∧ b1 = Config.cbByte then [b1, b0, 0] else [b0, b1, b2]

/-- The instruction the decoder reads from an instruction word of the opcode table. A word of one byte that is the
table-selecting byte is the base table's row for it (R310; log 12). -/
def decodeTableWord (nbits w : Nat) : Option Instr :=
  let bytes := tableWordBytes nbits w
  let given := if nbits ≤ 8 ∧ bytes.head? = some Config.cbByte then [Config.cbByte] else bytes
  match decode given with
  | .ok (i, _) => some i
  | .error _ => none

end Sys2Proof
end

