-- ==== Sys2Proof/Machine/State.lean ====
section
/-! DEFINITION. The state of the machine, plain data: the register file, PC and SP, the interrupt controller, the engine's own
state, the memory behind the bus (R78), and the events still to come from the other collaborators. -/

namespace Sys2Proof.Machine

/-- The memory behind the bus: the bytes that differ from what an unlisted address reads as, by address (log 3). -/
abbrev Memory := List Host.Cell

/-- The one-slot deferred-enable counter (R33, D11). -/
inductive ImeSched where
  | none | armed | due
  deriving DecidableEq, Repr

/-- The ExecutionState (R34). -/
inductive EngineState where
  | fetch | fetchExtendedPrefix | workPending
  | dispatchIf | dispatchIe | dispatchPush1 | dispatchPush2 | dispatchJump
  | halted | stopped
  deriving DecidableEq, Repr

/-- A reference to one descriptor: table selector and 8-bit opcode (R35). -/
structure OpRef where
  extended : Bool
  op : Byte
  deriving DecidableEq, Repr

/-- What another collaborator does between two machine cycles (R64, R334; log 2). -/
inductive Input where
  /-- A peripheral calls `requestInterrupt(kind)` (R334). -/
  | request (kind : Irq)
  /-- A collaborator writes a byte at a bus address (R64, R72, R346). -/
  | write (addr : Word) (v : Byte)
  deriving DecidableEq, Repr

/-- What stands at the other side of the bus and of the graphics queries (R42, R78; log 21). -/
inductive Platform where
  /-- The reference platform of R78 (D23): the display disabled, bits 7 to 5 of a read of IE zero. -/
  | reference
  /-- Any platform with a flat memory: the display's answers and those three bits are free values (U3, U6; logs 6, 7). -/
  | general
  deriving DecidableEq, Repr

/-- Everything the spec gives the machine. -/
structure State where
  /-- The accumulator (R20). -/
  a : Byte
  /-- The flag register: Z, N, H, C at bits 7 to 4; bits 3 to 0 read 0 (R21, R24). Read through `readF`. -/
  f : Byte
  /-- R20. -/
  b : Byte
  /-- R20. -/
  c : Byte
  /-- R20. -/
  d : Byte
  /-- R20. -/
  e : Byte
  /-- R20. -/
  h : Byte
  /-- R20. -/
  l : Byte
  /-- The stack pointer (R29). -/
  sp : Word
  /-- The program counter (R27). -/
  pc : Word
  /-- IE, the enable mask (R30). -/
  ie : BitVec 5
  /-- IF, the pending-request register (R31). -/
  ifr : BitVec 5
  /-- IME, the master enable (R32). -/
  ime : Bool
  /-- `ime_sched` (R33). -/
  imeSched : ImeSched
  /-- `state` (R34). -/
  engine : EngineState
  /-- `cur`, the current opcode; live only in WorkPending (R35). -/
  cur : OpRef
  /-- `step_idx`; live only in WorkPending (R35). -/
  stepIdx : Nat
  /-- The halt-bug marker (R36). -/
  haltBug : Bool
  /-- The operand latch W (R37). -/
  w : Byte
  /-- The operand latch Z (R37). -/
  z : Byte
  /-- `irq_idx`; live only in the last three dispatch phases (R38). -/
  irqIdx : Irq
  /-- `tick_div` (R39). -/
  tickDiv : BitVec 2
  /-- `cycle_count`, in clock ticks (R40); also the time at which the free values are taken (logs 6, 7). -/
  cycleCount : Nat
  /-- The memory behind the bus (R78; log 3). -/
  mem : Memory
  /-- The MODEL's own: which platform the machine stands on; fixed, no step changes it (R42, R78; log 21). -/
  platform : Platform
  /-- The MODEL's own: the other collaborators' events still to come, one entry per machine cycle of the engine, or per
  instruction boundary at instruction granularity (U7, U8; log 2). -/
  inputs : List (List Input)
  deriving DecidableEq, Repr

/-- The two engine faults, the complete list of R331. -/
inductive Fault where
  /-- The fetched base opcode selects no instruction (R311, R331). Raised by the meanings of the eleven ILLEGAL rows. Safe:
  the spec itself stops here (U1, U2). -/
  | unknownOpcode (op : Byte)
  /-- A step past the end of a step list (R128, R136). Raised by the engine's WorkPending cycle. Safe: the spec itself stops
  here (U4). -/
  | malformedDescriptor (cur : OpRef)
  deriving DecidableEq, Repr

/-- Why the model gives no outcome. -/
inductive Refusal where
  /-- An instruction without a meaning yet. Raised by no arm: every instruction has its meaning. Safe. -/
  | notModelled (mnemonic : String)
  deriving DecidableEq, Repr

/-- What a step or a meaning answers. -/
abbrev Result := Host.Outcome State Fault Refusal

/-- The machine right after reset (R43, R380 to R383). Registers take the defaults of R43 (log 4); the dead latches and the
list of inputs take values of the model's own (logs 2, 5), and the platform is that of R78 (log 21). -/
def State.reset : State where
  a := Config.resetA
  f := Config.resetF
  b := Config.resetB
  c := Config.resetC
  d := Config.resetD
  e := Config.resetE
  h := Config.resetH
  l := Config.resetL
  sp := Config.resetSP
  pc := Config.resetPC
  ie := Config.resetIE
  ifr := Config.resetIF
  ime := false
  imeSched := .none
  engine := .fetch
  cur := { extended := false, op := 0 }
  stepIdx := 0
  haltBug := false
  w := 0
  z := 0
  irqIdx := 0
  tickDiv := 0
  cycleCount := 0
  mem := []
  platform := .reference
  inputs := []

end Sys2Proof.Machine
end

