-- ==== Sys2Proof/Machine/Ops.lean ====
section
/-! DEFINITION. The named operations over registers, memory, the bus, the interrupt controller and the quirk trigger; taking
an interrupt, and the return from one. -/

namespace Sys2Proof.Machine

/-! ### Memory: a list in one canonical form (log 3) -/

/-- What an address that is not listed reads as (log 3). -/
def Memory.unlisted : Byte := 0

/-- The byte at an address. -/
def Memory.read : Memory → Nat → Byte
  | [], _ => Memory.unlisted
  | (b, v) :: rest, a => if a = b then v else Memory.read rest a

/-- The list without any entry for an address. -/
def Memory.erase (m : Memory) (a : Nat) : Memory := m.filter fun cell => cell.1 != a

/-- Put an entry before the first larger address. -/
def Memory.place : Memory → Nat → Byte → Memory
  | [], a, v => [(a, v)]
  | (b, x) :: rest, a, v => if a < b then (a, v) :: (b, x) :: rest else (b, x) :: Memory.place rest a v

/-- Store a byte; storing what an unlisted address reads as removes the entry. -/
def Memory.write (m : Memory) (a : Nat) (v : Byte) : Memory :=
  if v = Memory.unlisted then m.erase a else (m.erase a).place a v

/-- The canonical form from an address on: strictly rising addresses of the 16-bit space, and no entry equal to what an
unlisted address reads as. -/
def Memory.wfFrom : Nat → Memory → Bool
  | _, [] => true
  | lo, (a, v) :: rest => decide (lo ≤ a) && decide (a < 65536) && (v != Memory.unlisted) && Memory.wfFrom (a + 1) rest

/-- The canonical form: equal memories are equal lists. -/
def Memory.wf (m : Memory) : Bool := Memory.wfFrom 0 m

/-! ### Registers, flags and views (R20 to R25) -/

/-- F as it is read: bits 3 to 0 are 0 (R21). -/
def State.readF (s : State) : Byte := s.f &&& 0xF0

/-- Write F: `v & 0xF0` is stored (R21). -/
def State.writeF (s : State) (v : Byte) : State := { s with f := v &&& 0xF0 }

/-- `flag.Z = F[7]` (R24). -/
def State.flagZ (s : State) : Bool := s.f.getLsbD 7
/-- `flag.N = F[6]` (R24). -/
def State.flagN (s : State) : Bool := s.f.getLsbD 6
/-- `flag.H = F[5]` (R24). -/
def State.flagH (s : State) : Bool := s.f.getLsbD 5
/-- `flag.C = F[4]` (R24). -/
def State.flagC (s : State) : Bool := s.f.getLsbD 4

/-- `AF = A :: F` (R22). -/
def State.af (s : State) : Word := joinBytes s.a s.readF
/-- `BC = B :: C` (R22). -/
def State.bc (s : State) : Word := joinBytes s.b s.c
/-- `DE = D :: E` (R22). -/
def State.de (s : State) : Word := joinBytes s.d s.e
/-- `HL = H :: L` (R22). -/
def State.hl (s : State) : Word := joinBytes s.h s.l

/-- Write AF: `F <- v[7:0] & 0xF0` (R22). -/
def State.setAf (s : State) (v : Word) : State := { s with a := hiByte v, f := loByte v &&& 0xF0 }
/-- Write BC (R22). -/
def State.setBc (s : State) (v : Word) : State := { s with b := hiByte v, c := loByte v }
/-- Write DE (R22). -/
def State.setDe (s : State) (v : Word) : State := { s with d := hiByte v, e := loByte v }
/-- Write HL (R22). -/
def State.setHl (s : State) (v : Word) : State := { s with h := hiByte v, l := loByte v }

/-! ### Time: clock ticks and machine cycles (R11, R12, R40) -/

/-- One more machine cycle has its four ticks counted. At instruction granularity every machine cycle after the first begins
with this, so that the ticks an instruction costs, and the time of each of its accesses, come out (R12, R40). -/
def State.nextCycle (s : State) : State := { s with cycleCount := s.cycleCount + Config.ticksPerMCycle }

/-! ### The interrupt controller (R30 to R33, R334 to R342) -/

/-- Bits 7 to 5 of a read of IE at a clock tick: zero on the reference platform (R78), any value elsewhere (R335, U3;
log 6). -/
def Platform.ieUnusedBits (p : Platform) (n : Nat) : BitVec 3 :=
  match p with
  | .reference => 0
  | .general => Config.ieUnusedBits n

/-- `readIE()`: IE in bits 4 to 0; bits 7 to 5 are the platform's (R335, R78). -/
def State.readIE (s : State) : Byte := s.platform.ieUnusedBits s.cycleCount ++ s.ie

/-- `writeIE(v)`: `IE <- v[4:0]` (R335). -/
def State.writeIE (s : State) (v : Byte) : State := { s with ie := v.extractLsb' 0 5 }

/-- `readIF()`: `0xE0 | IF` (R336). -/
def State.readIF (s : State) : Byte := (7 : BitVec 3) ++ s.ifr

/-- `writeIF(v)`: `IF <- v[4:0]` (R336). -/
def State.writeIF (s : State) (v : Byte) : State := { s with ifr := v.extractLsb' 0 5 }

/-- The mask of one source. -/
def irqMask (k : Irq) : BitVec 5 := 1 <<< k.val

/-- `requestInterrupt(kind)` (R334). -/
def State.requestInterrupt (s : State) (k : Irq) : State := { s with ifr := s.ifr ||| irqMask k }

/-- `scheduleEnable(withDelay)` (R337). -/
def State.scheduleEnable (withDelay : Bool) (s : State) : State :=
  if withDelay then
    if s.ime = false ∧ s.imeSched = .none then { s with imeSched := .armed } else s
  else { s with ime := true, imeSched := .none }

/-- `disableImmediately()` (R338). -/
def State.disableImmediately (s : State) : State := { s with ime := false, imeSched := .none }

/-- `InstructionFinished()` (R340). -/
def State.instructionFinished (s : State) : State :=
  match s.imeSched with
  | .due => { s with ime := true, imeSched := .none }
  | .armed => { s with imeSched := .due }
  | .none => s

/-- Pending and enabled: `pe = IE & IF & 0x1F` (R341). -/
def State.pe (s : State) : BitVec 5 := s.ie &&& s.ifr

/-- An interrupt is deliverable (R341). -/
def State.deliverable (s : State) : Bool := s.ime && s.pe != 0

/-- The pending test of the halt wake and of the halt bug (R306, R361; D9, log 9). -/
def State.wakePending (s : State) : Bool :=
  if Config.wakeNeedsEnable then s.pe != 0 else s.ifr != 0

/-- The least `i` with `pe[i] = 1` (R342). -/
def lowest (pe : BitVec 5) : Irq :=
  if pe.getLsbD 0 then 0 else if pe.getLsbD 1 then 1 else if pe.getLsbD 2 then 2 else if pe.getLsbD 3 then 3 else 4

/-- The vector of a source: `0x0040 + 0x0008 * index` (R333, R349). -/
def vector (k : Irq) : Word := Config.vecBase + Config.vecStride * BitVec.ofNat 16 k.val

/-! ### The bus (R60 to R63, R78, R356) -/

/-- `read8(addr)` (R60): IE and IF at their addresses, memory elsewhere. -/
def State.read8 (s : State) (addr : Word) : Byte :=
  if addr = Config.ieAddr then s.readIE
  else if addr = Config.ifAddr then s.readIF
  else s.mem.read addr.toNat

/-- `write8(addr, value)` (R61): IE and IF at their addresses, memory elsewhere. -/
def State.write8 (s : State) (addr : Word) (v : Byte) : State :=
  if addr = Config.ieAddr then s.writeIE v
  else if addr = Config.ifAddr then s.writeIF v
  else { s with mem := s.mem.write addr.toNat v }

/-- `read16(a)`, composed from the 8-bit primitive; the engine never uses it (R62, D26). -/
def State.read16 (s : State) (addr : Word) : Word := joinBytes (s.read8 (addr + 1)) (s.read8 addr)

/-- `write16(a, v)`, composed from the 8-bit primitive; the engine never uses it (R62, D26). -/
def State.write16 (s : State) (addr : Word) (v : Word) : State :=
  (s.write8 addr (loByte v)).write8 (addr + 1) (hiByte v)

/-! ### Events of the other collaborators (log 2) -/

/-- One event takes effect (R64, R334). -/
def State.applyInput (s : State) : Input → State
  | .request k => s.requestInterrupt k
  | .write addr v => s.write8 addr v

/-- The events due now take effect, in order, and leave the list (R122, R334). -/
def State.arrive (s : State) : State :=
  match s.inputs with
  | [] => s
  | now :: later => now.foldl State.applyInput { s with inputs := later }

/-! ### The sprite-memory corruption quirk (R392 to R396) -/

/-- How many bytes the sprite-attribute region holds. -/
def oamSize : Nat := Config.oamHi.toNat + 1 - Config.oamLo.toNat

/-- The bytes of the sprite-attribute region. -/
def oamBytes (m : Memory) : List Byte := (List.range oamSize).map fun i => m.read (Config.oamLo.toNat + i)

/-- Memory after OamCorrupt: each byte of the region is whatever the routine makes of it, and nothing else changes (R396). -/
def oamCorrupted (tag : QuirkTag) (ticks : Nat) (m : Memory) : Memory :=
  (List.range oamSize).foldl
    (fun m' i => m'.write (Config.oamLo.toNat + i) (Config.oamCorrupt tag ticks (oamBytes m) i)) m

/-- An address arms the trigger: `OAM_LO <= addr and addr <= OAM_HI` (R394). -/
def inOam (addr : Word) : Bool := decide (Config.oamLo ≤ addr) && decide (addr ≤ Config.oamHi)

/-- `displayEnabled()` at a clock tick (R393): never on the reference platform (R78, D23), any value elsewhere (log 7). -/
def Platform.displayEnabled (p : Platform) (n : Nat) : Bool :=
  match p with
  | .reference => false
  | .general => Config.displayEnabled n

/-- `Quirk(tag, addr)` (R394). -/
def State.quirk (tag : QuirkTag) (addr : Word) (s : State) : State :=
  if inOam addr then
    if s.platform.displayEnabled s.cycleCount = true ∧ Config.pipelineMode s.cycleCount = Config.spriteScanMode then
      { s with mem := oamCorrupted tag (Config.ticksInLine s.cycleCount) s.mem }
    else s
  else s

/-! ### The stack micro-steps (R190) -/

/-- `PushHi` and `PushLo` for one byte: the quirk call with the old SP, decrement, write (R190). -/
def State.pushByte (tag : QuirkTag) (v : Byte) (s : State) : State :=
  let s1 := s.quirk tag s.sp
  ({ s1 with sp := s.sp - 1 } : State).write8 (s.sp - 1) v

/-- `PushHi(v)` (R190). -/
def State.pushHi (v : Word) (s : State) : State := s.pushByte .push1 (hiByte v)

/-- `PushLo(v)` (R190). -/
def State.pushLo (v : Word) (s : State) : State := s.pushByte .push2 (loByte v)

/-- The byte `PopLo` or `PopHi` reads: at SP, after the quirk call (R190). -/
def State.popValue (tag : QuirkTag) (s : State) : Byte := (s.quirk tag s.sp).read8 s.sp

/-- The state after `PopLo` or `PopHi`, but for the latch: the quirk call, then SP is incremented (R190). -/
def State.popNext (tag : QuirkTag) (s : State) : State :=
  let s1 := s.quirk tag s.sp
  { s1 with sp := s.sp + 1 }

/-- A whole push, two machine cycles (R190). -/
def State.push16 (v : Word) (s : State) : State := (s.nextCycle.pushHi v).nextCycle.pushLo v

/-- The state after the two machine cycles of a pop (R190). -/
def State.pop16Next (s : State) : State := ((s.nextCycle.popNext .pop1).nextCycle).popNext .pop2

/-- The word a pop reads, low byte first (R190). -/
def State.pop16Value (s : State) : Word :=
  joinBytes ((s.nextCycle.popNext .pop1).nextCycle.popValue .pop2) (s.nextCycle.popValue .pop1)

/-! ### Taking an interrupt (R345 to R350), and returning from one (R290, R351) -/

/-- Phase `Dispatch_IF`: a dummy cycle (R345). -/
def State.phaseIf (s : State) : State := { s with engine := .dispatchIe }

/-- Phase `Dispatch_IE`: choose the source, clear its bit and IME; or abort (R346). -/
def State.phaseIe (s : State) : State :=
  if s.pe = 0 then { s with engine := .fetch }
  else
    { ({ s with irqIdx := lowest s.pe, ifr := s.ifr &&& ~~~ irqMask (lowest s.pe) } : State).disableImmediately with
      engine := .dispatchPush1 }

/-- Phase `Dispatch_Push1`: push PC's high byte, no quirk call (R347). -/
def State.phasePush1 (s : State) : State :=
  { ({ s with sp := s.sp - 1 } : State).write8 (s.sp - 1) (hiByte s.pc) with engine := .dispatchPush2 }

/-- Phase `Dispatch_Push2`: push PC's low byte, no quirk call (R348). -/
def State.phasePush2 (s : State) : State :=
  { ({ s with sp := s.sp - 1 } : State).write8 (s.sp - 1) (loByte s.pc) with engine := .dispatchJump }

/-- Phase `Dispatch_Jump` (R349). -/
def State.phaseJump (s : State) : State := { s with pc := vector s.irqIdx, engine := .fetch }

/-- Take the deliverable interrupt: the five phases, one machine cycle each, with no event of a collaborator between them
(R350; log 1). -/
def State.takeInterrupt (s : State) : State :=
  s.nextCycle.phaseIf.nextCycle.phaseIe.nextCycle.phasePush1.nextCycle.phasePush2.nextCycle.phaseJump

/-- Return from an interrupt, RETI's last step: PC from the stack and IME at once (R290, R337). -/
def State.returnFromInterrupt (ret : Word) (s : State) : State :=
  ({ s with pc := ret } : State).scheduleEnable false

end Sys2Proof.Machine
end

