-- ==== Sys2Proof/Machine/Flags.lean ====
section
/-! DEFINITION. The flag computations and the arithmetic they go with: each operation answers its result and the four
flags, computed on exact integers and narrowed at the end (R26, R222). -/

namespace Sys2Proof.Machine

/-- The four flags (R24). -/
structure Flags where
  z : Bool
  n : Bool
  h : Bool
  c : Bool
  deriving DecidableEq, Repr

/-- The byte of F with these flags: bits 7, 6, 5, 4, and zeros below (R21, R24). -/
def Flags.pack (x : Flags) : Byte :=
  BitVec.ofBool x.z ++ BitVec.ofBool x.n ++ BitVec.ofBool x.h ++ BitVec.ofBool x.c ++ (0 : BitVec 4)

/-- The four flags of a state (R24). -/
def State.flags (s : State) : Flags := { z := s.flagZ, n := s.flagN, h := s.flagH, c := s.flagC }

/-- Write all four flags (R24, R25). -/
def State.setFlags (x : Flags) (s : State) : State := { s with f := x.pack }

/-- Set the zero flag alone (R25). -/
def State.setFlagZ (v : Bool) (s : State) : State := s.setFlags { s.flags with z := v }
/-- Set the subtract flag alone (R25). -/
def State.setFlagN (v : Bool) (s : State) : State := s.setFlags { s.flags with n := v }
/-- Set the half-carry flag alone (R25). -/
def State.setFlagH (v : Bool) (s : State) : State := s.setFlags { s.flags with h := v }
/-- Set the carry flag alone (R25). -/
def State.setFlagC (v : Bool) (s : State) : State := s.setFlags { s.flags with c := v }

/-- `v[3:0]` as a number. -/
def lowNibble (v : Byte) : Nat := v.toNat % 16

/-! ### 8-bit arithmetic and logic (R206 to R219) -/

/-- Addition with a carry in (R206, R207). -/
def add8 (a b : Byte) (cin : Bool) : Byte × Flags :=
  let s := a.toNat + b.toNat + cin.toNat
  (BitVec.ofNat 8 s,
    { z := BitVec.ofNat 8 s == 0, n := false, h := decide (lowNibble a + lowNibble b + cin.toNat > 0xF), c := decide (s > 0xFF) })

/-- Subtraction with a borrow in (R208, R209, R213). -/
def sub8 (a b : Byte) (cin : Bool) : Byte × Flags :=
  let r := BitVec.ofInt 8 ((a.toNat : Int) - b.toNat - cin.toNat)
  (r,
    { z := r == 0, n := true, h := decide (lowNibble a < lowNibble b + cin.toNat), c := decide (a.toNat < b.toNat + cin.toNat) })

/-- Conjunction (R210). -/
def and8 (a b : Byte) : Byte × Flags := (a &&& b, { z := a &&& b == 0, n := false, h := true, c := false })

/-- Exclusive or (R211). -/
def xor8 (a b : Byte) : Byte × Flags := (a ^^^ b, { z := a ^^^ b == 0, n := false, h := false, c := false })

/-- Disjunction (R212). -/
def or8 (a b : Byte) : Byte × Flags := (a ||| b, { z := a ||| b == 0, n := false, h := false, c := false })

/-- Increment; the carry flag `c` is kept (R214, R215). -/
def inc8 (v : Byte) (c : Bool) : Byte × Flags :=
  (v + 1, { z := v + 1 == 0, n := false, h := lowNibble v == 0xF, c := c })

/-- Decrement; the carry flag `c` is kept (R216, R217). -/
def dec8 (v : Byte) (c : Bool) : Byte × Flags :=
  (v - 1, { z := v - 1 == 0, n := true, h := lowNibble v == 0, c := c })

/-- The correction DAA applies (R218). -/
def daaCorrection (a : Byte) (x : Flags) : Byte :=
  (if x.h || (!x.n && decide (lowNibble a > 9)) then 0x06 else 0x00)
    ||| (if x.c || (!x.n && decide (a.toNat > 0x99)) then 0x60 else 0x00)

/-- Decimal adjust (R218). -/
def daa8 (a : Byte) (x : Flags) : Byte × Flags :=
  let r := if x.n then a - daaCorrection a x else a + daaCorrection a x
  (r, { z := r == 0, n := x.n, h := false, c := x.c || (!x.n && decide (a.toNat > 0x99)) })

/-! ### 16-bit arithmetic (R240, R244) -/

/-- `ADD HL,rr`; the zero flag `z` is kept (R240). -/
def addHl16 (hl rr : Word) (z : Bool) : Word × Flags :=
  let s := hl.toNat + rr.toNat
  (BitVec.ofNat 16 s,
    { z := z, n := false, h := decide (hl.toNat % 0x1000 + rr.toNat % 0x1000 > 0xFFF), c := decide (s > 0xFFFF) })

/-- `AddSPe(sp, e)` (R244, C2). -/
def addSpe (sp : Word) (e : Byte) : Word × Flags :=
  (sp + sext16 e,
    { z := false, n := false, h := decide (lowNibble (loByte sp) + lowNibble e > 0xF),
      c := decide ((loByte sp).toNat + e.toNat > 0xFF) })

/-! ### Rotates, shifts and bits (R250 to R265) -/

/-- The result of a rotate or shift of `v` with carry `c` (R255 to R262). -/
def rotValue (op : RotOp) (v : Byte) (c : Bool) : Byte :=
  match op with
  | .rlc => v.extractLsb' 0 7 ++ v.extractLsb' 7 1
  | .rrc => v.extractLsb' 0 1 ++ v.extractLsb' 1 7
  | .rl => v.extractLsb' 0 7 ++ BitVec.ofBool c
  | .rr => BitVec.ofBool c ++ v.extractLsb' 1 7
  | .sla => v.extractLsb' 0 7 ++ (0 : BitVec 1)
  | .sra => v.extractLsb' 7 1 ++ v.extractLsb' 1 7
  | .swap => v.extractLsb' 0 4 ++ v.extractLsb' 4 4
  | .srl => (0 : BitVec 1) ++ v.extractLsb' 1 7

/-- The carry a rotate or shift leaves (R255 to R262). -/
def rotCarry (op : RotOp) (v : Byte) : Bool :=
  match op with
  | .rlc | .rl | .sla => v.getLsbD 7
  | .rrc | .rr | .sra | .srl => v.getLsbD 0
  | .swap => false

/-- A rotate or shift with its flags (R255 to R262). -/
def rot8 (op : RotOp) (v : Byte) (c : Bool) : Byte × Flags :=
  (rotValue op v c, { z := rotValue op v c == 0, n := false, h := false, c := rotCarry op v })

/-- The extended-table operation an accumulator rotate shares its result and carry with (R250 to R253). -/
def accRotOp : AccRotOp → RotOp
  | .rlca => .rlc | .rrca => .rrc | .rla => .rl | .rra => .rr

/-- An accumulator rotate: Z is forced to 0 (R250 to R253). -/
def accRot8 (op : AccRotOp) (v : Byte) (c : Bool) : Byte × Flags :=
  ((rot8 (accRotOp op) v c).1, { (rot8 (accRotOp op) v c).2 with z := false })

/-- The flags of `BIT b`; the carry flag `c` is kept (R263). -/
def bitFlags (b : BitVec 3) (v : Byte) (c : Bool) : Flags :=
  { z := !v.getLsbD b.toNat, n := false, h := true, c := c }

/-- `v & ~(1 << b)` (R264). -/
def resBit (b : BitVec 3) (v : Byte) : Byte := v &&& ~~~ ((1 : Byte) <<< b.toNat)

/-- `v | (1 << b)` (R265). -/
def setBit (b : BitVec 3) (v : Byte) : Byte := v ||| ((1 : Byte) <<< b.toNat)

end Sys2Proof.Machine
end

