-- ==== Sys2Proof/Machine/Operands.lean ====
section
/-! DEFINITION. The operand forms: the register, pair and pointer selectors of R94 and R95, the conditions of R96 and R280. -/

namespace Sys2Proof.Machine

/-- Read the register a selector names (R94). -/
def State.reg (s : State) : Reg8 → Byte
  | .b => s.b | .c => s.c | .d => s.d | .e => s.e | .h => s.h | .l => s.l | .a => s.a

/-- Write the register a selector names (R94). -/
def State.setReg (r : Reg8) (v : Byte) (s : State) : State :=
  match r with
  | .b => { s with b := v }
  | .c => { s with c := v }
  | .d => { s with d := v }
  | .e => { s with e := v }
  | .h => { s with h := v }
  | .l => { s with l := v }
  | .a => { s with a := v }

/-- Read a pair of table `rr` (R95). -/
def State.pair (s : State) : Reg16 → Word
  | .bc => s.bc | .de => s.de | .hl => s.hl | .sp => s.sp

/-- Write a pair of table `rr` (R95). -/
def State.setPair (rr : Reg16) (v : Word) (s : State) : State :=
  match rr with
  | .bc => s.setBc v
  | .de => s.setDe v
  | .hl => s.setHl v
  | .sp => { s with sp := v }

/-- Read a pair of table `rr2` (R95). -/
def State.stackPair (s : State) : StackReg → Word
  | .bc => s.bc | .de => s.de | .hl => s.hl | .af => s.af

/-- Write a pair of table `rr2` (R95); AF's low nibble is dropped (R197). -/
def State.setStackPair (rr : StackReg) (v : Word) (s : State) : State :=
  match rr with
  | .bc => s.setBc v
  | .de => s.setDe v
  | .hl => s.setHl v
  | .af => s.setAf v

/-- The address an indirect-load pointer names (R95). -/
def State.indAddr (s : State) : IndPtr → Word
  | .bc => s.bc | .de => s.de | .hlInc => s.hl | .hlDec => s.hl

/-- What an indirect-load pointer does to HL after its use (R95, R175 to R178). -/
def State.indAfter (p : IndPtr) (s : State) : State :=
  match p with
  | .bc => s
  | .de => s
  | .hlInc => s.setHl (s.hl + 1)
  | .hlDec => s.setHl (s.hl - 1)

/-- `cond(cc)` (R96, R280). -/
def State.cond (s : State) : Cond → Bool
  | .nz => !s.flagZ
  | .z => s.flagZ
  | .nc => !s.flagC
  | .c => s.flagC

end Sys2Proof.Machine
end

