-- ==== Sys2Proof/Machine/Alu16.lean ====
section
/-! DEFINITION. 16-bit arithmetic (R240 to R244). -/

namespace Sys2Proof.Machine

/-- `ADD HL,rr` (R240). -/
def addHlPair (rr : Reg16) (s : State) : Result :=
  .next ((s.nextCycle.setFlags (addHl16 s.hl (s.pair rr) s.flagZ).2).setHl (addHl16 s.hl (s.pair rr) s.flagZ).1)

/-- `INC rr` (R241): the quirk call takes the value before the increment. -/
def incPair (rr : Reg16) (s : State) : Result :=
  .next ((s.nextCycle.quirk .incDec (s.pair rr)).setPair rr (s.pair rr + 1))

/-- `DEC rr` (R242): the quirk call takes the value before the decrement. -/
def decPair (rr : Reg16) (s : State) : Result :=
  .next ((s.nextCycle.quirk .incDec (s.pair rr)).setPair rr (s.pair rr - 1))

/-- `ADD SP,e8` (R243): two internal cycles. -/
def addSpE (e : Byte) (s : State) : Result :=
  .next { s.nextCycle.nextCycle.setFlags (addSpe s.sp e).2 with sp := (addSpe s.sp e).1 }

/-! ### The rows of `addHlPair` -/

/-- 0x09 `ADD HL,BC` (R240). -/
def execAddHlBc (s : State) : Result := addHlPair .bc s

/-- 0x19 `ADD HL,DE` (R240). -/
def execAddHlDe (s : State) : Result := addHlPair .de s

/-- 0x29 `ADD HL,HL` (R240). -/
def execAddHlHl (s : State) : Result := addHlPair .hl s

/-- 0x39 `ADD HL,SP` (R240). -/
def execAddHlSp (s : State) : Result := addHlPair .sp s

/-! ### The rows of `incPair` -/

/-- 0x03 `INC BC` (R241). -/
def execIncBc (s : State) : Result := incPair .bc s

/-- 0x13 `INC DE` (R241). -/
def execIncDe (s : State) : Result := incPair .de s

/-- 0x23 `INC HL` (R241). -/
def execIncHl (s : State) : Result := incPair .hl s

/-- 0x33 `INC SP` (R241). -/
def execIncSp (s : State) : Result := incPair .sp s

/-! ### The rows of `decPair` -/

/-- 0x0B `DEC BC` (R242). -/
def execDecBc (s : State) : Result := decPair .bc s

/-- 0x1B `DEC DE` (R242). -/
def execDecDe (s : State) : Result := decPair .de s

/-- 0x2B `DEC HL` (R242). -/
def execDecHl (s : State) : Result := decPair .hl s

/-- 0x3B `DEC SP` (R242). -/
def execDecSp (s : State) : Result := decPair .sp s

/-! ### The rows of `addSpE` -/

/-- 0xE8 `ADD SP,e8` (R243). -/
def execAddSpE8 (e : Byte) (s : State) : Result := addSpE e s

end Sys2Proof.Machine
end

