-- ==== Sys2Proof/Machine/Alu8.lean ====
section
/-! DEFINITION. 8-bit arithmetic and logic (R205 to R221). -/

namespace Sys2Proof.Machine

/-- Write the accumulator and the flags. -/
def State.putA (x : Byte × Flags) (s : State) : State := { s with a := x.1, f := x.2.pack }

/-- Apply an operation to A and an operand: the register and flag writes of the operation's rule (R205 to R213). -/
def State.applyAlu (op : AluOp) (b : Byte) (s : State) : State :=
  match op with
  | .add => s.putA (add8 s.a b false)
  | .adc => s.putA (add8 s.a b s.flagC)
  | .sub => s.putA (sub8 s.a b false)
  | .sbc => s.putA (sub8 s.a b s.flagC)
  | .and => s.putA (and8 s.a b)
  | .xor => s.putA (xor8 s.a b)
  | .or => s.putA (or8 s.a b)
  | .cp => s.setFlags (sub8 s.a b false).2

/-- `op A,r` (R205). -/
def aluReg (op : AluOp) (r : Reg8) (s : State) : Result := .next (s.applyAlu op (s.reg r))

/-- `op A,(HL)` (R205). -/
def aluHl (op : AluOp) (s : State) : Result := .next (s.nextCycle.applyAlu op (s.nextCycle.read8 s.hl))

/-- `op A,d8` (R205). -/
def aluImm (op : AluOp) (n : Byte) (s : State) : Result := .next (s.applyAlu op n)

/-- `INC r` (R214). -/
def incReg (r : Reg8) (s : State) : Result :=
  .next ((s.setReg r (inc8 (s.reg r) s.flagC).1).setFlags (inc8 (s.reg r) s.flagC).2)

/-- `INC (HL)` (R215): one read, then one write and the flags. -/
def incHl (s : State) : Result :=
  let x := inc8 (s.nextCycle.read8 s.hl) s.flagC
  .next ((s.nextCycle.nextCycle.write8 s.hl x.1).setFlags x.2)

/-- `DEC r` (R216). -/
def decReg (r : Reg8) (s : State) : Result :=
  .next ((s.setReg r (dec8 (s.reg r) s.flagC).1).setFlags (dec8 (s.reg r) s.flagC).2)

/-- `DEC (HL)` (R217): one read, then one write and the flags. -/
def decHl (s : State) : Result :=
  let x := dec8 (s.nextCycle.read8 s.hl) s.flagC
  .next ((s.nextCycle.nextCycle.write8 s.hl x.1).setFlags x.2)

/-- `DAA` (R218). -/
def daa (s : State) : Result := .next (s.putA (daa8 s.a s.flags))

/-- `CPL` (R219). -/
def cpl (s : State) : Result := .next (((s.setReg .a (~~~ s.a)).setFlagN true).setFlagH true)

/-- `SCF` (R220). -/
def scf (s : State) : Result := .next (((s.setFlagN false).setFlagH false).setFlagC true)

/-- `CCF` (R221). -/
def ccf (s : State) : Result := .next (((s.setFlagN false).setFlagH false).setFlagC (!s.flagC))

/-! ### The rows of `aluReg` -/

/-- 0x80 `ADD A,B` (R206). -/
def execAddAB (s : State) : Result := aluReg .add .b s

/-- 0x81 `ADD A,C` (R206). -/
def execAddAC (s : State) : Result := aluReg .add .c s

/-- 0x82 `ADD A,D` (R206). -/
def execAddAD (s : State) : Result := aluReg .add .d s

/-- 0x83 `ADD A,E` (R206). -/
def execAddAE (s : State) : Result := aluReg .add .e s

/-- 0x84 `ADD A,H` (R206). -/
def execAddAH (s : State) : Result := aluReg .add .h s

/-- 0x85 `ADD A,L` (R206). -/
def execAddAL (s : State) : Result := aluReg .add .l s

/-- 0x87 `ADD A,A` (R206). -/
def execAddAA (s : State) : Result := aluReg .add .a s

/-- 0x88 `ADC A,B` (R207). -/
def execAdcAB (s : State) : Result := aluReg .adc .b s

/-- 0x89 `ADC A,C` (R207). -/
def execAdcAC (s : State) : Result := aluReg .adc .c s

/-- 0x8A `ADC A,D` (R207). -/
def execAdcAD (s : State) : Result := aluReg .adc .d s

/-- 0x8B `ADC A,E` (R207). -/
def execAdcAE (s : State) : Result := aluReg .adc .e s

/-- 0x8C `ADC A,H` (R207). -/
def execAdcAH (s : State) : Result := aluReg .adc .h s

/-- 0x8D `ADC A,L` (R207). -/
def execAdcAL (s : State) : Result := aluReg .adc .l s

/-- 0x8F `ADC A,A` (R207). -/
def execAdcAA (s : State) : Result := aluReg .adc .a s

/-- 0x90 `SUB A,B` (R208). -/
def execSubAB (s : State) : Result := aluReg .sub .b s

/-- 0x91 `SUB A,C` (R208). -/
def execSubAC (s : State) : Result := aluReg .sub .c s

/-- 0x92 `SUB A,D` (R208). -/
def execSubAD (s : State) : Result := aluReg .sub .d s

/-- 0x93 `SUB A,E` (R208). -/
def execSubAE (s : State) : Result := aluReg .sub .e s

/-- 0x94 `SUB A,H` (R208). -/
def execSubAH (s : State) : Result := aluReg .sub .h s

/-- 0x95 `SUB A,L` (R208). -/
def execSubAL (s : State) : Result := aluReg .sub .l s

/-- 0x97 `SUB A,A` (R208). -/
def execSubAA (s : State) : Result := aluReg .sub .a s

/-- 0x98 `SBC A,B` (R209). -/
def execSbcAB (s : State) : Result := aluReg .sbc .b s

/-- 0x99 `SBC A,C` (R209). -/
def execSbcAC (s : State) : Result := aluReg .sbc .c s

/-- 0x9A `SBC A,D` (R209). -/
def execSbcAD (s : State) : Result := aluReg .sbc .d s

/-- 0x9B `SBC A,E` (R209). -/
def execSbcAE (s : State) : Result := aluReg .sbc .e s

/-- 0x9C `SBC A,H` (R209). -/
def execSbcAH (s : State) : Result := aluReg .sbc .h s

/-- 0x9D `SBC A,L` (R209). -/
def execSbcAL (s : State) : Result := aluReg .sbc .l s

/-- 0x9F `SBC A,A` (R209). -/
def execSbcAA (s : State) : Result := aluReg .sbc .a s

/-- 0xA0 `AND A,B` (R210). -/
def execAndAB (s : State) : Result := aluReg .and .b s

/-- 0xA1 `AND A,C` (R210). -/
def execAndAC (s : State) : Result := aluReg .and .c s

/-- 0xA2 `AND A,D` (R210). -/
def execAndAD (s : State) : Result := aluReg .and .d s

/-- 0xA3 `AND A,E` (R210). -/
def execAndAE (s : State) : Result := aluReg .and .e s

/-- 0xA4 `AND A,H` (R210). -/
def execAndAH (s : State) : Result := aluReg .and .h s

/-- 0xA5 `AND A,L` (R210). -/
def execAndAL (s : State) : Result := aluReg .and .l s

/-- 0xA7 `AND A,A` (R210). -/
def execAndAA (s : State) : Result := aluReg .and .a s

/-- 0xA8 `XOR A,B` (R211). -/
def execXorAB (s : State) : Result := aluReg .xor .b s

/-- 0xA9 `XOR A,C` (R211). -/
def execXorAC (s : State) : Result := aluReg .xor .c s

/-- 0xAA `XOR A,D` (R211). -/
def execXorAD (s : State) : Result := aluReg .xor .d s

/-- 0xAB `XOR A,E` (R211). -/
def execXorAE (s : State) : Result := aluReg .xor .e s

/-- 0xAC `XOR A,H` (R211). -/
def execXorAH (s : State) : Result := aluReg .xor .h s

/-- 0xAD `XOR A,L` (R211). -/
def execXorAL (s : State) : Result := aluReg .xor .l s

/-- 0xAF `XOR A,A` (R211). -/
def execXorAA (s : State) : Result := aluReg .xor .a s

/-- 0xB0 `OR A,B` (R212). -/
def execOrAB (s : State) : Result := aluReg .or .b s

/-- 0xB1 `OR A,C` (R212). -/
def execOrAC (s : State) : Result := aluReg .or .c s

/-- 0xB2 `OR A,D` (R212). -/
def execOrAD (s : State) : Result := aluReg .or .d s

/-- 0xB3 `OR A,E` (R212). -/
def execOrAE (s : State) : Result := aluReg .or .e s

/-- 0xB4 `OR A,H` (R212). -/
def execOrAH (s : State) : Result := aluReg .or .h s

/-- 0xB5 `OR A,L` (R212). -/
def execOrAL (s : State) : Result := aluReg .or .l s

/-- 0xB7 `OR A,A` (R212). -/
def execOrAA (s : State) : Result := aluReg .or .a s

/-- 0xB8 `CP A,B` (R213). -/
def execCpAB (s : State) : Result := aluReg .cp .b s

/-- 0xB9 `CP A,C` (R213). -/
def execCpAC (s : State) : Result := aluReg .cp .c s

/-- 0xBA `CP A,D` (R213). -/
def execCpAD (s : State) : Result := aluReg .cp .d s

/-- 0xBB `CP A,E` (R213). -/
def execCpAE (s : State) : Result := aluReg .cp .e s

/-- 0xBC `CP A,H` (R213). -/
def execCpAH (s : State) : Result := aluReg .cp .h s

/-- 0xBD `CP A,L` (R213). -/
def execCpAL (s : State) : Result := aluReg .cp .l s

/-- 0xBF `CP A,A` (R213). -/
def execCpAA (s : State) : Result := aluReg .cp .a s

/-! ### The rows of `aluHl` -/

/-- 0x86 `ADD A,(HL)` (R206). -/
def execAddAIndHl (s : State) : Result := aluHl .add s

/-- 0x8E `ADC A,(HL)` (R207). -/
def execAdcAIndHl (s : State) : Result := aluHl .adc s

/-- 0x96 `SUB A,(HL)` (R208). -/
def execSubAIndHl (s : State) : Result := aluHl .sub s

/-- 0x9E `SBC A,(HL)` (R209). -/
def execSbcAIndHl (s : State) : Result := aluHl .sbc s

/-- 0xA6 `AND A,(HL)` (R210). -/
def execAndAIndHl (s : State) : Result := aluHl .and s

/-- 0xAE `XOR A,(HL)` (R211). -/
def execXorAIndHl (s : State) : Result := aluHl .xor s

/-- 0xB6 `OR A,(HL)` (R212). -/
def execOrAIndHl (s : State) : Result := aluHl .or s

/-- 0xBE `CP A,(HL)` (R213). -/
def execCpAIndHl (s : State) : Result := aluHl .cp s

/-! ### The rows of `aluImm` -/

/-- 0xC6 `ADD A,d8` (R206). -/
def execAddAD8 (n : Byte) (s : State) : Result := aluImm .add n s

/-- 0xCE `ADC A,d8` (R207). -/
def execAdcAD8 (n : Byte) (s : State) : Result := aluImm .adc n s

/-- 0xD6 `SUB A,d8` (R208). -/
def execSubAD8 (n : Byte) (s : State) : Result := aluImm .sub n s

/-- 0xDE `SBC A,d8` (R209). -/
def execSbcAD8 (n : Byte) (s : State) : Result := aluImm .sbc n s

/-- 0xE6 `AND A,d8` (R210). -/
def execAndAD8 (n : Byte) (s : State) : Result := aluImm .and n s

/-- 0xEE `XOR A,d8` (R211). -/
def execXorAD8 (n : Byte) (s : State) : Result := aluImm .xor n s

/-- 0xF6 `OR A,d8` (R212). -/
def execOrAD8 (n : Byte) (s : State) : Result := aluImm .or n s

/-- 0xFE `CP A,d8` (R213). -/
def execCpAD8 (n : Byte) (s : State) : Result := aluImm .cp n s

/-! ### The rows of `incReg` -/

/-- 0x04 `INC B` (R214). -/
def execIncB (s : State) : Result := incReg .b s

/-- 0x0C `INC C` (R214). -/
def execIncC (s : State) : Result := incReg .c s

/-- 0x14 `INC D` (R214). -/
def execIncD (s : State) : Result := incReg .d s

/-- 0x1C `INC E` (R214). -/
def execIncE (s : State) : Result := incReg .e s

/-- 0x24 `INC H` (R214). -/
def execIncH (s : State) : Result := incReg .h s

/-- 0x2C `INC L` (R214). -/
def execIncL (s : State) : Result := incReg .l s

/-- 0x3C `INC A` (R214). -/
def execIncA (s : State) : Result := incReg .a s

/-! ### The rows of `incHl` -/

/-- 0x34 `INC (HL)` (R215). -/
def execIncIndHl (s : State) : Result := incHl s

/-! ### The rows of `decReg` -/

/-- 0x05 `DEC B` (R216). -/
def execDecB (s : State) : Result := decReg .b s

/-- 0x0D `DEC C` (R216). -/
def execDecC (s : State) : Result := decReg .c s

/-- 0x15 `DEC D` (R216). -/
def execDecD (s : State) : Result := decReg .d s

/-- 0x1D `DEC E` (R216). -/
def execDecE (s : State) : Result := decReg .e s

/-- 0x25 `DEC H` (R216). -/
def execDecH (s : State) : Result := decReg .h s

/-- 0x2D `DEC L` (R216). -/
def execDecL (s : State) : Result := decReg .l s

/-- 0x3D `DEC A` (R216). -/
def execDecA (s : State) : Result := decReg .a s

/-! ### The rows of `decHl` -/

/-- 0x35 `DEC (HL)` (R217). -/
def execDecIndHl (s : State) : Result := decHl s

/-! ### The rows of `daa` -/

/-- 0x27 `DAA` (R218). -/
def execDaa (s : State) : Result := daa s

/-! ### The rows of `cpl` -/

/-- 0x2F `CPL` (R219). -/
def execCpl (s : State) : Result := cpl s

/-! ### The rows of `scf` -/

/-- 0x37 `SCF` (R220). -/
def execScf (s : State) : Result := scf s

/-! ### The rows of `ccf` -/

/-- 0x3F `CCF` (R221). -/
def execCcf (s : State) : Result := ccf s

end Sys2Proof.Machine
end

