-- ==== Sys2Proof/Machine/BitOps.lean ====
section
/-! DEFINITION. BIT, RES and SET, each on a register or on `(HL)` (R254, R263 to R265). -/

namespace Sys2Proof.Machine

/-- `BIT b,r` (R263). -/
def bitReg (b : BitVec 3) (r : Reg8) (s : State) : Result := .next (s.setFlags (bitFlags b (s.reg r) s.flagC))

/-- `BIT b,(HL)`: one read, no write (R263). -/
def bitHl (b : BitVec 3) (s : State) : Result :=
  .next (s.nextCycle.setFlags (bitFlags b (s.nextCycle.read8 s.hl) s.flagC))

/-- `RES b,r` (R264). -/
def resReg (b : BitVec 3) (r : Reg8) (s : State) : Result := .next (s.setReg r (resBit b (s.reg r)))

/-- `RES b,(HL)`: one read, then one write (R264). -/
def resHl (b : BitVec 3) (s : State) : Result :=
  .next (s.nextCycle.nextCycle.write8 s.hl (resBit b (s.nextCycle.read8 s.hl)))

/-- `SET b,r` (R265). -/
def setReg (b : BitVec 3) (r : Reg8) (s : State) : Result := .next (s.setReg r (setBit b (s.reg r)))

/-- `SET b,(HL)`: one read, then one write (R265). -/
def setHl (b : BitVec 3) (s : State) : Result :=
  .next (s.nextCycle.nextCycle.write8 s.hl (setBit b (s.nextCycle.read8 s.hl)))

/-! ### The rows of `bitReg` -/

/-- 0xCB 0x40 `BIT 0,B` (R263). -/
def execCbBit0B (s : State) : Result := bitReg 0 .b s

/-- 0xCB 0x41 `BIT 0,C` (R263). -/
def execCbBit0C (s : State) : Result := bitReg 0 .c s

/-- 0xCB 0x42 `BIT 0,D` (R263). -/
def execCbBit0D (s : State) : Result := bitReg 0 .d s

/-- 0xCB 0x43 `BIT 0,E` (R263). -/
def execCbBit0E (s : State) : Result := bitReg 0 .e s

/-- 0xCB 0x44 `BIT 0,H` (R263). -/
def execCbBit0H (s : State) : Result := bitReg 0 .h s

/-- 0xCB 0x45 `BIT 0,L` (R263). -/
def execCbBit0L (s : State) : Result := bitReg 0 .l s

/-- 0xCB 0x47 `BIT 0,A` (R263). -/
def execCbBit0A (s : State) : Result := bitReg 0 .a s

/-- 0xCB 0x48 `BIT 1,B` (R263). -/
def execCbBit1B (s : State) : Result := bitReg 1 .b s

/-- 0xCB 0x49 `BIT 1,C` (R263). -/
def execCbBit1C (s : State) : Result := bitReg 1 .c s

/-- 0xCB 0x4A `BIT 1,D` (R263). -/
def execCbBit1D (s : State) : Result := bitReg 1 .d s

/-- 0xCB 0x4B `BIT 1,E` (R263). -/
def execCbBit1E (s : State) : Result := bitReg 1 .e s

/-- 0xCB 0x4C `BIT 1,H` (R263). -/
def execCbBit1H (s : State) : Result := bitReg 1 .h s

/-- 0xCB 0x4D `BIT 1,L` (R263). -/
def execCbBit1L (s : State) : Result := bitReg 1 .l s

/-- 0xCB 0x4F `BIT 1,A` (R263). -/
def execCbBit1A (s : State) : Result := bitReg 1 .a s

/-- 0xCB 0x50 `BIT 2,B` (R263). -/
def execCbBit2B (s : State) : Result := bitReg 2 .b s

/-- 0xCB 0x51 `BIT 2,C` (R263). -/
def execCbBit2C (s : State) : Result := bitReg 2 .c s

/-- 0xCB 0x52 `BIT 2,D` (R263). -/
def execCbBit2D (s : State) : Result := bitReg 2 .d s

/-- 0xCB 0x53 `BIT 2,E` (R263). -/
def execCbBit2E (s : State) : Result := bitReg 2 .e s

/-- 0xCB 0x54 `BIT 2,H` (R263). -/
def execCbBit2H (s : State) : Result := bitReg 2 .h s

/-- 0xCB 0x55 `BIT 2,L` (R263). -/
def execCbBit2L (s : State) : Result := bitReg 2 .l s

/-- 0xCB 0x57 `BIT 2,A` (R263). -/
def execCbBit2A (s : State) : Result := bitReg 2 .a s

/-- 0xCB 0x58 `BIT 3,B` (R263). -/
def execCbBit3B (s : State) : Result := bitReg 3 .b s

/-- 0xCB 0x59 `BIT 3,C` (R263). -/
def execCbBit3C (s : State) : Result := bitReg 3 .c s

/-- 0xCB 0x5A `BIT 3,D` (R263). -/
def execCbBit3D (s : State) : Result := bitReg 3 .d s

/-- 0xCB 0x5B `BIT 3,E` (R263). -/
def execCbBit3E (s : State) : Result := bitReg 3 .e s

/-- 0xCB 0x5C `BIT 3,H` (R263). -/
def execCbBit3H (s : State) : Result := bitReg 3 .h s

/-- 0xCB 0x5D `BIT 3,L` (R263). -/
def execCbBit3L (s : State) : Result := bitReg 3 .l s

/-- 0xCB 0x5F `BIT 3,A` (R263). -/
def execCbBit3A (s : State) : Result := bitReg 3 .a s

/-- 0xCB 0x60 `BIT 4,B` (R263). -/
def execCbBit4B (s : State) : Result := bitReg 4 .b s

/-- 0xCB 0x61 `BIT 4,C` (R263). -/
def execCbBit4C (s : State) : Result := bitReg 4 .c s

/-- 0xCB 0x62 `BIT 4,D` (R263). -/
def execCbBit4D (s : State) : Result := bitReg 4 .d s

/-- 0xCB 0x63 `BIT 4,E` (R263). -/
def execCbBit4E (s : State) : Result := bitReg 4 .e s

/-- 0xCB 0x64 `BIT 4,H` (R263). -/
def execCbBit4H (s : State) : Result := bitReg 4 .h s

/-- 0xCB 0x65 `BIT 4,L` (R263). -/
def execCbBit4L (s : State) : Result := bitReg 4 .l s

/-- 0xCB 0x67 `BIT 4,A` (R263). -/
def execCbBit4A (s : State) : Result := bitReg 4 .a s

/-- 0xCB 0x68 `BIT 5,B` (R263). -/
def execCbBit5B (s : State) : Result := bitReg 5 .b s

/-- 0xCB 0x69 `BIT 5,C` (R263). -/
def execCbBit5C (s : State) : Result := bitReg 5 .c s

/-- 0xCB 0x6A `BIT 5,D` (R263). -/
def execCbBit5D (s : State) : Result := bitReg 5 .d s

/-- 0xCB 0x6B `BIT 5,E` (R263). -/
def execCbBit5E (s : State) : Result := bitReg 5 .e s

/-- 0xCB 0x6C `BIT 5,H` (R263). -/
def execCbBit5H (s : State) : Result := bitReg 5 .h s

/-- 0xCB 0x6D `BIT 5,L` (R263). -/
def execCbBit5L (s : State) : Result := bitReg 5 .l s

/-- 0xCB 0x6F `BIT 5,A` (R263). -/
def execCbBit5A (s : State) : Result := bitReg 5 .a s

/-- 0xCB 0x70 `BIT 6,B` (R263). -/
def execCbBit6B (s : State) : Result := bitReg 6 .b s

/-- 0xCB 0x71 `BIT 6,C` (R263). -/
def execCbBit6C (s : State) : Result := bitReg 6 .c s

/-- 0xCB 0x72 `BIT 6,D` (R263). -/
def execCbBit6D (s : State) : Result := bitReg 6 .d s

/-- 0xCB 0x73 `BIT 6,E` (R263). -/
def execCbBit6E (s : State) : Result := bitReg 6 .e s

/-- 0xCB 0x74 `BIT 6,H` (R263). -/
def execCbBit6H (s : State) : Result := bitReg 6 .h s

/-- 0xCB 0x75 `BIT 6,L` (R263). -/
def execCbBit6L (s : State) : Result := bitReg 6 .l s

/-- 0xCB 0x77 `BIT 6,A` (R263). -/
def execCbBit6A (s : State) : Result := bitReg 6 .a s

/-- 0xCB 0x78 `BIT 7,B` (R263). -/
def execCbBit7B (s : State) : Result := bitReg 7 .b s

/-- 0xCB 0x79 `BIT 7,C` (R263). -/
def execCbBit7C (s : State) : Result := bitReg 7 .c s

/-- 0xCB 0x7A `BIT 7,D` (R263). -/
def execCbBit7D (s : State) : Result := bitReg 7 .d s

/-- 0xCB 0x7B `BIT 7,E` (R263). -/
def execCbBit7E (s : State) : Result := bitReg 7 .e s

/-- 0xCB 0x7C `BIT 7,H` (R263). -/
def execCbBit7H (s : State) : Result := bitReg 7 .h s

/-- 0xCB 0x7D `BIT 7,L` (R263). -/
def execCbBit7L (s : State) : Result := bitReg 7 .l s

/-- 0xCB 0x7F `BIT 7,A` (R263). -/
def execCbBit7A (s : State) : Result := bitReg 7 .a s

/-! ### The rows of `bitHl` -/

/-- 0xCB 0x46 `BIT 0,(HL)` (R263). -/
def execCbBit0IndHl (s : State) : Result := bitHl 0 s

/-- 0xCB 0x4E `BIT 1,(HL)` (R263). -/
def execCbBit1IndHl (s : State) : Result := bitHl 1 s

/-- 0xCB 0x56 `BIT 2,(HL)` (R263). -/
def execCbBit2IndHl (s : State) : Result := bitHl 2 s

/-- 0xCB 0x5E `BIT 3,(HL)` (R263). -/
def execCbBit3IndHl (s : State) : Result := bitHl 3 s

/-- 0xCB 0x66 `BIT 4,(HL)` (R263). -/
def execCbBit4IndHl (s : State) : Result := bitHl 4 s

/-- 0xCB 0x6E `BIT 5,(HL)` (R263). -/
def execCbBit5IndHl (s : State) : Result := bitHl 5 s

/-- 0xCB 0x76 `BIT 6,(HL)` (R263). -/
def execCbBit6IndHl (s : State) : Result := bitHl 6 s

/-- 0xCB 0x7E `BIT 7,(HL)` (R263). -/
def execCbBit7IndHl (s : State) : Result := bitHl 7 s

/-! ### The rows of `resReg` -/

/-- 0xCB 0x80 `RES 0,B` (R264). -/
def execCbRes0B (s : State) : Result := resReg 0 .b s

/-- 0xCB 0x81 `RES 0,C` (R264). -/
def execCbRes0C (s : State) : Result := resReg 0 .c s

/-- 0xCB 0x82 `RES 0,D` (R264). -/
def execCbRes0D (s : State) : Result := resReg 0 .d s

/-- 0xCB 0x83 `RES 0,E` (R264). -/
def execCbRes0E (s : State) : Result := resReg 0 .e s

/-- 0xCB 0x84 `RES 0,H` (R264). -/
def execCbRes0H (s : State) : Result := resReg 0 .h s

/-- 0xCB 0x85 `RES 0,L` (R264). -/
def execCbRes0L (s : State) : Result := resReg 0 .l s

/-- 0xCB 0x87 `RES 0,A` (R264). -/
def execCbRes0A (s : State) : Result := resReg 0 .a s

/-- 0xCB 0x88 `RES 1,B` (R264). -/
def execCbRes1B (s : State) : Result := resReg 1 .b s

/-- 0xCB 0x89 `RES 1,C` (R264). -/
def execCbRes1C (s : State) : Result := resReg 1 .c s

/-- 0xCB 0x8A `RES 1,D` (R264). -/
def execCbRes1D (s : State) : Result := resReg 1 .d s

/-- 0xCB 0x8B `RES 1,E` (R264). -/
def execCbRes1E (s : State) : Result := resReg 1 .e s

/-- 0xCB 0x8C `RES 1,H` (R264). -/
def execCbRes1H (s : State) : Result := resReg 1 .h s

/-- 0xCB 0x8D `RES 1,L` (R264). -/
def execCbRes1L (s : State) : Result := resReg 1 .l s

/-- 0xCB 0x8F `RES 1,A` (R264). -/
def execCbRes1A (s : State) : Result := resReg 1 .a s

/-- 0xCB 0x90 `RES 2,B` (R264). -/
def execCbRes2B (s : State) : Result := resReg 2 .b s

/-- 0xCB 0x91 `RES 2,C` (R264). -/
def execCbRes2C (s : State) : Result := resReg 2 .c s

/-- 0xCB 0x92 `RES 2,D` (R264). -/
def execCbRes2D (s : State) : Result := resReg 2 .d s

/-- 0xCB 0x93 `RES 2,E` (R264). -/
def execCbRes2E (s : State) : Result := resReg 2 .e s

/-- 0xCB 0x94 `RES 2,H` (R264). -/
def execCbRes2H (s : State) : Result := resReg 2 .h s

/-- 0xCB 0x95 `RES 2,L` (R264). -/
def execCbRes2L (s : State) : Result := resReg 2 .l s

/-- 0xCB 0x97 `RES 2,A` (R264). -/
def execCbRes2A (s : State) : Result := resReg 2 .a s

/-- 0xCB 0x98 `RES 3,B` (R264). -/
def execCbRes3B (s : State) : Result := resReg 3 .b s

/-- 0xCB 0x99 `RES 3,C` (R264). -/
def execCbRes3C (s : State) : Result := resReg 3 .c s

/-- 0xCB 0x9A `RES 3,D` (R264). -/
def execCbRes3D (s : State) : Result := resReg 3 .d s

/-- 0xCB 0x9B `RES 3,E` (R264). -/
def execCbRes3E (s : State) : Result := resReg 3 .e s

/-- 0xCB 0x9C `RES 3,H` (R264). -/
def execCbRes3H (s : State) : Result := resReg 3 .h s

/-- 0xCB 0x9D `RES 3,L` (R264). -/
def execCbRes3L (s : State) : Result := resReg 3 .l s

/-- 0xCB 0x9F `RES 3,A` (R264). -/
def execCbRes3A (s : State) : Result := resReg 3 .a s

/-- 0xCB 0xA0 `RES 4,B` (R264). -/
def execCbRes4B (s : State) : Result := resReg 4 .b s

/-- 0xCB 0xA1 `RES 4,C` (R264). -/
def execCbRes4C (s : State) : Result := resReg 4 .c s

/-- 0xCB 0xA2 `RES 4,D` (R264). -/
def execCbRes4D (s : State) : Result := resReg 4 .d s

/-- 0xCB 0xA3 `RES 4,E` (R264). -/
def execCbRes4E (s : State) : Result := resReg 4 .e s

/-- 0xCB 0xA4 `RES 4,H` (R264). -/
def execCbRes4H (s : State) : Result := resReg 4 .h s

/-- 0xCB 0xA5 `RES 4,L` (R264). -/
def execCbRes4L (s : State) : Result := resReg 4 .l s

/-- 0xCB 0xA7 `RES 4,A` (R264). -/
def execCbRes4A (s : State) : Result := resReg 4 .a s

/-- 0xCB 0xA8 `RES 5,B` (R264). -/
def execCbRes5B (s : State) : Result := resReg 5 .b s

/-- 0xCB 0xA9 `RES 5,C` (R264). -/
def execCbRes5C (s : State) : Result := resReg 5 .c s

/-- 0xCB 0xAA `RES 5,D` (R264). -/
def execCbRes5D (s : State) : Result := resReg 5 .d s

/-- 0xCB 0xAB `RES 5,E` (R264). -/
def execCbRes5E (s : State) : Result := resReg 5 .e s

/-- 0xCB 0xAC `RES 5,H` (R264). -/
def execCbRes5H (s : State) : Result := resReg 5 .h s

/-- 0xCB 0xAD `RES 5,L` (R264). -/
def execCbRes5L (s : State) : Result := resReg 5 .l s

/-- 0xCB 0xAF `RES 5,A` (R264). -/
def execCbRes5A (s : State) : Result := resReg 5 .a s

/-- 0xCB 0xB0 `RES 6,B` (R264). -/
def execCbRes6B (s : State) : Result := resReg 6 .b s

/-- 0xCB 0xB1 `RES 6,C` (R264). -/
def execCbRes6C (s : State) : Result := resReg 6 .c s

/-- 0xCB 0xB2 `RES 6,D` (R264). -/
def execCbRes6D (s : State) : Result := resReg 6 .d s

/-- 0xCB 0xB3 `RES 6,E` (R264). -/
def execCbRes6E (s : State) : Result := resReg 6 .e s

/-- 0xCB 0xB4 `RES 6,H` (R264). -/
def execCbRes6H (s : State) : Result := resReg 6 .h s

/-- 0xCB 0xB5 `RES 6,L` (R264). -/
def execCbRes6L (s : State) : Result := resReg 6 .l s

/-- 0xCB 0xB7 `RES 6,A` (R264). -/
def execCbRes6A (s : State) : Result := resReg 6 .a s

/-- 0xCB 0xB8 `RES 7,B` (R264). -/
def execCbRes7B (s : State) : Result := resReg 7 .b s

/-- 0xCB 0xB9 `RES 7,C` (R264). -/
def execCbRes7C (s : State) : Result := resReg 7 .c s

/-- 0xCB 0xBA `RES 7,D` (R264). -/
def execCbRes7D (s : State) : Result := resReg 7 .d s

/-- 0xCB 0xBB `RES 7,E` (R264). -/
def execCbRes7E (s : State) : Result := resReg 7 .e s

/-- 0xCB 0xBC `RES 7,H` (R264). -/
def execCbRes7H (s : State) : Result := resReg 7 .h s

/-- 0xCB 0xBD `RES 7,L` (R264). -/
def execCbRes7L (s : State) : Result := resReg 7 .l s

/-- 0xCB 0xBF `RES 7,A` (R264). -/
def execCbRes7A (s : State) : Result := resReg 7 .a s

/-! ### The rows of `resHl` -/

/-- 0xCB 0x86 `RES 0,(HL)` (R264). -/
def execCbRes0IndHl (s : State) : Result := resHl 0 s

/-- 0xCB 0x8E `RES 1,(HL)` (R264). -/
def execCbRes1IndHl (s : State) : Result := resHl 1 s

/-- 0xCB 0x96 `RES 2,(HL)` (R264). -/
def execCbRes2IndHl (s : State) : Result := resHl 2 s

/-- 0xCB 0x9E `RES 3,(HL)` (R264). -/
def execCbRes3IndHl (s : State) : Result := resHl 3 s

/-- 0xCB 0xA6 `RES 4,(HL)` (R264). -/
def execCbRes4IndHl (s : State) : Result := resHl 4 s

/-- 0xCB 0xAE `RES 5,(HL)` (R264). -/
def execCbRes5IndHl (s : State) : Result := resHl 5 s

/-- 0xCB 0xB6 `RES 6,(HL)` (R264). -/
def execCbRes6IndHl (s : State) : Result := resHl 6 s

/-- 0xCB 0xBE `RES 7,(HL)` (R264). -/
def execCbRes7IndHl (s : State) : Result := resHl 7 s

/-! ### The rows of `setReg` -/

/-- 0xCB 0xC0 `SET 0,B` (R265). -/
def execCbSet0B (s : State) : Result := setReg 0 .b s

/-- 0xCB 0xC1 `SET 0,C` (R265). -/
def execCbSet0C (s : State) : Result := setReg 0 .c s

/-- 0xCB 0xC2 `SET 0,D` (R265). -/
def execCbSet0D (s : State) : Result := setReg 0 .d s

/-- 0xCB 0xC3 `SET 0,E` (R265). -/
def execCbSet0E (s : State) : Result := setReg 0 .e s

/-- 0xCB 0xC4 `SET 0,H` (R265). -/
def execCbSet0H (s : State) : Result := setReg 0 .h s

/-- 0xCB 0xC5 `SET 0,L` (R265). -/
def execCbSet0L (s : State) : Result := setReg 0 .l s

/-- 0xCB 0xC7 `SET 0,A` (R265). -/
def execCbSet0A (s : State) : Result := setReg 0 .a s

/-- 0xCB 0xC8 `SET 1,B` (R265). -/
def execCbSet1B (s : State) : Result := setReg 1 .b s

/-- 0xCB 0xC9 `SET 1,C` (R265). -/
def execCbSet1C (s : State) : Result := setReg 1 .c s

/-- 0xCB 0xCA `SET 1,D` (R265). -/
def execCbSet1D (s : State) : Result := setReg 1 .d s

/-- 0xCB 0xCB `SET 1,E` (R265). -/
def execCbSet1E (s : State) : Result := setReg 1 .e s

/-- 0xCB 0xCC `SET 1,H` (R265). -/
def execCbSet1H (s : State) : Result := setReg 1 .h s

/-- 0xCB 0xCD `SET 1,L` (R265). -/
def execCbSet1L (s : State) : Result := setReg 1 .l s

/-- 0xCB 0xCF `SET 1,A` (R265). -/
def execCbSet1A (s : State) : Result := setReg 1 .a s

/-- 0xCB 0xD0 `SET 2,B` (R265). -/
def execCbSet2B (s : State) : Result := setReg 2 .b s

/-- 0xCB 0xD1 `SET 2,C` (R265). -/
def execCbSet2C (s : State) : Result := setReg 2 .c s

/-- 0xCB 0xD2 `SET 2,D` (R265). -/
def execCbSet2D (s : State) : Result := setReg 2 .d s

/-- 0xCB 0xD3 `SET 2,E` (R265). -/
def execCbSet2E (s : State) : Result := setReg 2 .e s

/-- 0xCB 0xD4 `SET 2,H` (R265). -/
def execCbSet2H (s : State) : Result := setReg 2 .h s

/-- 0xCB 0xD5 `SET 2,L` (R265). -/
def execCbSet2L (s : State) : Result := setReg 2 .l s

/-- 0xCB 0xD7 `SET 2,A` (R265). -/
def execCbSet2A (s : State) : Result := setReg 2 .a s

/-- 0xCB 0xD8 `SET 3,B` (R265). -/
def execCbSet3B (s : State) : Result := setReg 3 .b s

/-- 0xCB 0xD9 `SET 3,C` (R265). -/
def execCbSet3C (s : State) : Result := setReg 3 .c s

/-- 0xCB 0xDA `SET 3,D` (R265). -/
def execCbSet3D (s : State) : Result := setReg 3 .d s

/-- 0xCB 0xDB `SET 3,E` (R265). -/
def execCbSet3E (s : State) : Result := setReg 3 .e s

/-- 0xCB 0xDC `SET 3,H` (R265). -/
def execCbSet3H (s : State) : Result := setReg 3 .h s

/-- 0xCB 0xDD `SET 3,L` (R265). -/
def execCbSet3L (s : State) : Result := setReg 3 .l s

/-- 0xCB 0xDF `SET 3,A` (R265). -/
def execCbSet3A (s : State) : Result := setReg 3 .a s

/-- 0xCB 0xE0 `SET 4,B` (R265). -/
def execCbSet4B (s : State) : Result := setReg 4 .b s

/-- 0xCB 0xE1 `SET 4,C` (R265). -/
def execCbSet4C (s : State) : Result := setReg 4 .c s

/-- 0xCB 0xE2 `SET 4,D` (R265). -/
def execCbSet4D (s : State) : Result := setReg 4 .d s

/-- 0xCB 0xE3 `SET 4,E` (R265). -/
def execCbSet4E (s : State) : Result := setReg 4 .e s

/-- 0xCB 0xE4 `SET 4,H` (R265). -/
def execCbSet4H (s : State) : Result := setReg 4 .h s

/-- 0xCB 0xE5 `SET 4,L` (R265). -/
def execCbSet4L (s : State) : Result := setReg 4 .l s

/-- 0xCB 0xE7 `SET 4,A` (R265). -/
def execCbSet4A (s : State) : Result := setReg 4 .a s

/-- 0xCB 0xE8 `SET 5,B` (R265). -/
def execCbSet5B (s : State) : Result := setReg 5 .b s

/-- 0xCB 0xE9 `SET 5,C` (R265). -/
def execCbSet5C (s : State) : Result := setReg 5 .c s

/-- 0xCB 0xEA `SET 5,D` (R265). -/
def execCbSet5D (s : State) : Result := setReg 5 .d s

/-- 0xCB 0xEB `SET 5,E` (R265). -/
def execCbSet5E (s : State) : Result := setReg 5 .e s

/-- 0xCB 0xEC `SET 5,H` (R265). -/
def execCbSet5H (s : State) : Result := setReg 5 .h s

/-- 0xCB 0xED `SET 5,L` (R265). -/
def execCbSet5L (s : State) : Result := setReg 5 .l s

/-- 0xCB 0xEF `SET 5,A` (R265). -/
def execCbSet5A (s : State) : Result := setReg 5 .a s

/-- 0xCB 0xF0 `SET 6,B` (R265). -/
def execCbSet6B (s : State) : Result := setReg 6 .b s

/-- 0xCB 0xF1 `SET 6,C` (R265). -/
def execCbSet6C (s : State) : Result := setReg 6 .c s

/-- 0xCB 0xF2 `SET 6,D` (R265). -/
def execCbSet6D (s : State) : Result := setReg 6 .d s

/-- 0xCB 0xF3 `SET 6,E` (R265). -/
def execCbSet6E (s : State) : Result := setReg 6 .e s

/-- 0xCB 0xF4 `SET 6,H` (R265). -/
def execCbSet6H (s : State) : Result := setReg 6 .h s

/-- 0xCB 0xF5 `SET 6,L` (R265). -/
def execCbSet6L (s : State) : Result := setReg 6 .l s

/-- 0xCB 0xF7 `SET 6,A` (R265). -/
def execCbSet6A (s : State) : Result := setReg 6 .a s

/-- 0xCB 0xF8 `SET 7,B` (R265). -/
def execCbSet7B (s : State) : Result := setReg 7 .b s

/-- 0xCB 0xF9 `SET 7,C` (R265). -/
def execCbSet7C (s : State) : Result := setReg 7 .c s

/-- 0xCB 0xFA `SET 7,D` (R265). -/
def execCbSet7D (s : State) : Result := setReg 7 .d s

/-- 0xCB 0xFB `SET 7,E` (R265). -/
def execCbSet7E (s : State) : Result := setReg 7 .e s

/-- 0xCB 0xFC `SET 7,H` (R265). -/
def execCbSet7H (s : State) : Result := setReg 7 .h s

/-- 0xCB 0xFD `SET 7,L` (R265). -/
def execCbSet7L (s : State) : Result := setReg 7 .l s

/-- 0xCB 0xFF `SET 7,A` (R265). -/
def execCbSet7A (s : State) : Result := setReg 7 .a s

/-! ### The rows of `setHl` -/

/-- 0xCB 0xC6 `SET 0,(HL)` (R265). -/
def execCbSet0IndHl (s : State) : Result := setHl 0 s

/-- 0xCB 0xCE `SET 1,(HL)` (R265). -/
def execCbSet1IndHl (s : State) : Result := setHl 1 s

/-- 0xCB 0xD6 `SET 2,(HL)` (R265). -/
def execCbSet2IndHl (s : State) : Result := setHl 2 s

/-- 0xCB 0xDE `SET 3,(HL)` (R265). -/
def execCbSet3IndHl (s : State) : Result := setHl 3 s

/-- 0xCB 0xE6 `SET 4,(HL)` (R265). -/
def execCbSet4IndHl (s : State) : Result := setHl 4 s

/-- 0xCB 0xEE `SET 5,(HL)` (R265). -/
def execCbSet5IndHl (s : State) : Result := setHl 5 s

/-- 0xCB 0xF6 `SET 6,(HL)` (R265). -/
def execCbSet6IndHl (s : State) : Result := setHl 6 s

/-- 0xCB 0xFE `SET 7,(HL)` (R265). -/
def execCbSet7IndHl (s : State) : Result := setHl 7 s

end Sys2Proof.Machine
end

