-- ==== Sys2Proof/Machine/Control.lean ====
section
/-! DEFINITION. Control transfer (R280 to R291). PC addresses the next instruction when a meaning starts, so a relative jump
adds to it and a call pushes it (R27). A false condition ends the instruction there (R129, R280). No flag is written. -/

namespace Sys2Proof.Machine

/-- `JP a16` (R281). -/
def jp (a : Word) (s : State) : Result := .next { s.nextCycle with pc := a }

/-- `JP cc,a16` (R282). -/
def jpCond (cc : Cond) (a : Word) (s : State) : Result := if s.cond cc then jp a s else .next s

/-- `JP HL` (R283). -/
def jpHl (s : State) : Result := .next { s with pc := s.hl }

/-- `JR e8` (R284). -/
def jr (e : Byte) (s : State) : Result := .next { s.nextCycle with pc := s.pc + sext16 e }

/-- `JR cc,e8` (R285). -/
def jrCond (cc : Cond) (e : Byte) (s : State) : Result := if s.cond cc then jr e s else .next s

/-- Push the return address after an internal cycle and jump: the common part of CALL and RST (R286, R291). -/
def State.callTo (target : Word) (s : State) : State := { s.nextCycle.push16 s.pc with pc := target }

/-- `CALL a16` (R286). -/
def call (a : Word) (s : State) : Result := .next (s.callTo a)

/-- `CALL cc,a16` (R287). -/
def callCond (cc : Cond) (a : Word) (s : State) : Result := if s.cond cc then call a s else .next s

/-- `RET` (R288): the pop, then an internal cycle. -/
def ret (s : State) : Result := .next { s.pop16Next.nextCycle with pc := s.pop16Value }

/-- `RET cc` (R289): the condition has an internal cycle of its own. -/
def retCond (cc : Cond) (s : State) : Result := if s.cond cc then ret s.nextCycle else .next s.nextCycle

/-- `RETI` (R290). -/
def reti (s : State) : Result := .next (s.pop16Next.nextCycle.returnFromInterrupt s.pop16Value)

/-- The address `t = y * 8` of an RST (R93, R291). -/
def rstTarget (t : BitVec 3) : Word := t.setWidth 16 * 8

/-- `RST t` (R291). -/
def rst (t : BitVec 3) (s : State) : Result := .next (s.callTo (rstTarget t))

/-! ### The rows of `jp` -/

/-- 0xC3 `JP a16` (R281). -/
def execJpA16 (a : Word) (s : State) : Result := jp a s

/-! ### The rows of `jpCond` -/

/-- 0xC2 `JP NZ,a16` (R282). -/
def execJpNzA16 (a : Word) (s : State) : Result := jpCond .nz a s

/-- 0xCA `JP Z,a16` (R282). -/
def execJpZA16 (a : Word) (s : State) : Result := jpCond .z a s

/-- 0xD2 `JP NC,a16` (R282). -/
def execJpNcA16 (a : Word) (s : State) : Result := jpCond .nc a s

/-- 0xDA `JP C,a16` (R282). -/
def execJpCA16 (a : Word) (s : State) : Result := jpCond .c a s

/-! ### The rows of `jpHl` -/

/-- 0xE9 `JP HL` (R283). -/
def execJpHl (s : State) : Result := jpHl s

/-! ### The rows of `jr` -/

/-- 0x18 `JR e8` (R284). -/
def execJrE8 (e : Byte) (s : State) : Result := jr e s

/-! ### The rows of `jrCond` -/

/-- 0x20 `JR NZ,e8` (R285). -/
def execJrNzE8 (e : Byte) (s : State) : Result := jrCond .nz e s

/-- 0x28 `JR Z,e8` (R285). -/
def execJrZE8 (e : Byte) (s : State) : Result := jrCond .z e s

/-- 0x30 `JR NC,e8` (R285). -/
def execJrNcE8 (e : Byte) (s : State) : Result := jrCond .nc e s

/-- 0x38 `JR C,e8` (R285). -/
def execJrCE8 (e : Byte) (s : State) : Result := jrCond .c e s

/-! ### The rows of `call` -/

/-- 0xCD `CALL a16` (R286). -/
def execCallA16 (a : Word) (s : State) : Result := call a s

/-! ### The rows of `callCond` -/

/-- 0xC4 `CALL NZ,a16` (R287). -/
def execCallNzA16 (a : Word) (s : State) : Result := callCond .nz a s

/-- 0xCC `CALL Z,a16` (R287). -/
def execCallZA16 (a : Word) (s : State) : Result := callCond .z a s

/-- 0xD4 `CALL NC,a16` (R287). -/
def execCallNcA16 (a : Word) (s : State) : Result := callCond .nc a s

/-- 0xDC `CALL C,a16` (R287). -/
def execCallCA16 (a : Word) (s : State) : Result := callCond .c a s

/-! ### The rows of `ret` -/

/-- 0xC9 `RET` (R288). -/
def execRet (s : State) : Result := ret s

/-! ### The rows of `retCond` -/

/-- 0xC0 `RET NZ` (R289). -/
def execRetNz (s : State) : Result := retCond .nz s

/-- 0xC8 `RET Z` (R289). -/
def execRetZ (s : State) : Result := retCond .z s

/-- 0xD0 `RET NC` (R289). -/
def execRetNc (s : State) : Result := retCond .nc s

/-- 0xD8 `RET C` (R289). -/
def execRetC (s : State) : Result := retCond .c s

/-! ### The rows of `reti` -/

/-- 0xD9 `RETI` (R290). -/
def execReti (s : State) : Result := reti s

/-! ### The rows of `rst` -/

/-- 0xC7 `RST 00H` (R291). -/
def execRst00 (s : State) : Result := rst 0 s

/-- 0xCF `RST 08H` (R291). -/
def execRst08 (s : State) : Result := rst 1 s

/-- 0xD7 `RST 10H` (R291). -/
def execRst10 (s : State) : Result := rst 2 s

/-- 0xDF `RST 18H` (R291). -/
def execRst18 (s : State) : Result := rst 3 s

/-- 0xE7 `RST 20H` (R291). -/
def execRst20 (s : State) : Result := rst 4 s

/-- 0xEF `RST 28H` (R291). -/
def execRst28 (s : State) : Result := rst 5 s

/-- 0xF7 `RST 30H` (R291). -/
def execRst30 (s : State) : Result := rst 6 s

/-- 0xFF `RST 38H` (R291). -/
def execRst38 (s : State) : Result := rst 7 s

end Sys2Proof.Machine
end

