-- ==== Sys2Proof/Machine/Load16.lean ====
section
/-! DEFINITION. The 16-bit loads and the stack instructions (R190 to R197). -/

namespace Sys2Proof.Machine

/-- `LD rr,d16` (R191): the quirk call, with the loaded value as its address, is in the cycle that reads the high byte. -/
def ldPairImm (rr : Reg16) (n : Word) (s : State) : Result := .next ((s.quirk .ld16 n).setPair rr n)

/-- `LD (a16),SP` (R192): low byte, then high byte. -/
def ldAbsSp (a : Word) (s : State) : Result :=
  .next ((s.nextCycle.write8 a (loByte s.sp)).nextCycle.write8 (a + 1) (hiByte s.sp))

/-- `LD SP,HL` (R193). -/
def ldSpHl (s : State) : Result := .next { s.nextCycle with sp := s.hl }

/-- `LD HL,SP+e8` (R194). -/
def ldHlSpE (e : Byte) (s : State) : Result :=
  .next ((s.nextCycle.setFlags (addSpe s.sp e).2).setHl (addSpe s.sp e).1)

/-- `PUSH rr` (R195): an internal cycle, then the two halves. -/
def push (rr : StackReg) (s : State) : Result := .next (s.nextCycle.push16 (s.stackPair rr))

/-- `POP rr` (R196) and `POP AF` (R197). -/
def pop (rr : StackReg) (s : State) : Result := .next (s.pop16Next.setStackPair rr s.pop16Value)

/-! ### The rows of `ldPairImm` -/

/-- 0x01 `LD BC,d16` (R191). -/
def execLdBcD16 (n : Word) (s : State) : Result := ldPairImm .bc n s

/-- 0x11 `LD DE,d16` (R191). -/
def execLdDeD16 (n : Word) (s : State) : Result := ldPairImm .de n s

/-- 0x21 `LD HL,d16` (R191). -/
def execLdHlD16 (n : Word) (s : State) : Result := ldPairImm .hl n s

/-- 0x31 `LD SP,d16` (R191). -/
def execLdSpD16 (n : Word) (s : State) : Result := ldPairImm .sp n s

/-! ### The rows of `ldAbsSp` -/

/-- 0x08 `LD (a16),SP` (R192). -/
def execLdIndA16Sp (a : Word) (s : State) : Result := ldAbsSp a s

/-! ### The rows of `ldSpHl` -/

/-- 0xF9 `LD SP,HL` (R193). -/
def execLdSpHl (s : State) : Result := ldSpHl s

/-! ### The rows of `ldHlSpE` -/

/-- 0xF8 `LD HL,SP+e8` (R194). -/
def execLdHlSpE8 (e : Byte) (s : State) : Result := ldHlSpE e s

/-! ### The rows of `push` -/

/-- 0xC5 `PUSH BC` (R195). -/
def execPushBc (s : State) : Result := push .bc s

/-- 0xD5 `PUSH DE` (R195). -/
def execPushDe (s : State) : Result := push .de s

/-- 0xE5 `PUSH HL` (R195). -/
def execPushHl (s : State) : Result := push .hl s

/-- 0xF5 `PUSH AF` (R195). -/
def execPushAf (s : State) : Result := push .af s

/-! ### The rows of `pop` -/

/-- 0xC1 `POP BC` (R196). -/
def execPopBc (s : State) : Result := pop .bc s

/-- 0xD1 `POP DE` (R196). -/
def execPopDe (s : State) : Result := pop .de s

/-- 0xE1 `POP HL` (R196). -/
def execPopHl (s : State) : Result := pop .hl s

/-- 0xF1 `POP AF` (R197). -/
def execPopAf (s : State) : Result := pop .af s

end Sys2Proof.Machine
end

