-- ==== Sys2Proof/Machine/Load8.lean ====
section
/-! DEFINITION. The 8-bit loads (R160 to R178). A meaning starts where the fetch of the opcode and the operand bytes ended: PC
addresses the next instruction and the machine cycle of the last byte read is the current one. No flag is read or written. -/

namespace Sys2Proof.Machine

/-- `LD r,r'` (R160). -/
def ldRegReg (r r' : Reg8) (s : State) : Result := .next (s.setReg r (s.reg r'))

/-- `LD r,d8` (R161). -/
def ldRegImm (r : Reg8) (n : Byte) (s : State) : Result := .next (s.setReg r n)

/-- `LD r,(HL)` (R162). -/
def ldRegHl (r : Reg8) (s : State) : Result := .next (s.nextCycle.setReg r (s.nextCycle.read8 s.hl))

/-- `LD (HL),r` (R163). -/
def ldHlReg (r : Reg8) (s : State) : Result := .next (s.nextCycle.write8 s.hl (s.reg r))

/-- `LD (HL),d8` (R164). -/
def ldHlImm (n : Byte) (s : State) : Result := .next (s.nextCycle.write8 s.hl n)

/-- `LD A,(BC)`, `LD A,(DE)`, `LD A,(HL+)`, `LD A,(HL-)` (R165, R166, R177, R178). -/
def ldAInd (p : IndPtr) (s : State) : Result :=
  .next ((s.nextCycle.setReg .a (s.nextCycle.read8 (s.indAddr p))).indAfter p)

/-- `LD (BC),A`, `LD (DE),A`, `LD (HL+),A`, `LD (HL-),A` (R167, R168, R175, R176). -/
def ldIndA (p : IndPtr) (s : State) : Result :=
  .next ((s.nextCycle.write8 (s.indAddr p) s.a).indAfter p)

/-- `LD A,(a16)` (R169). -/
def ldAAbs (a : Word) (s : State) : Result := .next (s.nextCycle.setReg .a (s.nextCycle.read8 a))

/-- `LD (a16),A` (R170). -/
def ldAbsA (a : Word) (s : State) : Result := .next (s.nextCycle.write8 a s.a)

/-- `LDH A,(a8)` (R171). -/
def ldhAImm (a : Byte) (s : State) : Result := .next (s.nextCycle.setReg .a (s.nextCycle.read8 (highPage a)))

/-- `LDH (a8),A` (R172). -/
def ldhImmA (a : Byte) (s : State) : Result := .next (s.nextCycle.write8 (highPage a) s.a)

/-- `LDH A,(C)` (R173). -/
def ldhAC (s : State) : Result := .next (s.nextCycle.setReg .a (s.nextCycle.read8 (highPage s.c)))

/-- `LDH (C),A` (R174). -/
def ldhCA (s : State) : Result := .next (s.nextCycle.write8 (highPage s.c) s.a)

/-! ### The rows of `ldRegReg` -/

/-- 0x40 `LD B,B` (R160). -/
def execLdBB (s : State) : Result := ldRegReg .b .b s

/-- 0x41 `LD B,C` (R160). -/
def execLdBC (s : State) : Result := ldRegReg .b .c s

/-- 0x42 `LD B,D` (R160). -/
def execLdBD (s : State) : Result := ldRegReg .b .d s

/-- 0x43 `LD B,E` (R160). -/
def execLdBE (s : State) : Result := ldRegReg .b .e s

/-- 0x44 `LD B,H` (R160). -/
def execLdBH (s : State) : Result := ldRegReg .b .h s

/-- 0x45 `LD B,L` (R160). -/
def execLdBL (s : State) : Result := ldRegReg .b .l s

/-- 0x47 `LD B,A` (R160). -/
def execLdBA (s : State) : Result := ldRegReg .b .a s

/-- 0x48 `LD C,B` (R160). -/
def execLdCB (s : State) : Result := ldRegReg .c .b s

/-- 0x49 `LD C,C` (R160). -/
def execLdCC (s : State) : Result := ldRegReg .c .c s

/-- 0x4A `LD C,D` (R160). -/
def execLdCD (s : State) : Result := ldRegReg .c .d s

/-- 0x4B `LD C,E` (R160). -/
def execLdCE (s : State) : Result := ldRegReg .c .e s

/-- 0x4C `LD C,H` (R160). -/
def execLdCH (s : State) : Result := ldRegReg .c .h s

/-- 0x4D `LD C,L` (R160). -/
def execLdCL (s : State) : Result := ldRegReg .c .l s

/-- 0x4F `LD C,A` (R160). -/
def execLdCA (s : State) : Result := ldRegReg .c .a s

/-- 0x50 `LD D,B` (R160). -/
def execLdDB (s : State) : Result := ldRegReg .d .b s

/-- 0x51 `LD D,C` (R160). -/
def execLdDC (s : State) : Result := ldRegReg .d .c s

/-- 0x52 `LD D,D` (R160). -/
def execLdDD (s : State) : Result := ldRegReg .d .d s

/-- 0x53 `LD D,E` (R160). -/
def execLdDE (s : State) : Result := ldRegReg .d .e s

/-- 0x54 `LD D,H` (R160). -/
def execLdDH (s : State) : Result := ldRegReg .d .h s

/-- 0x55 `LD D,L` (R160). -/
def execLdDL (s : State) : Result := ldRegReg .d .l s

/-- 0x57 `LD D,A` (R160). -/
def execLdDA (s : State) : Result := ldRegReg .d .a s

/-- 0x58 `LD E,B` (R160). -/
def execLdEB (s : State) : Result := ldRegReg .e .b s

/-- 0x59 `LD E,C` (R160). -/
def execLdEC (s : State) : Result := ldRegReg .e .c s

/-- 0x5A `LD E,D` (R160). -/
def execLdED (s : State) : Result := ldRegReg .e .d s

/-- 0x5B `LD E,E` (R160). -/
def execLdEE (s : State) : Result := ldRegReg .e .e s

/-- 0x5C `LD E,H` (R160). -/
def execLdEH (s : State) : Result := ldRegReg .e .h s

/-- 0x5D `LD E,L` (R160). -/
def execLdEL (s : State) : Result := ldRegReg .e .l s

/-- 0x5F `LD E,A` (R160). -/
def execLdEA (s : State) : Result := ldRegReg .e .a s

/-- 0x60 `LD H,B` (R160). -/
def execLdHB (s : State) : Result := ldRegReg .h .b s

/-- 0x61 `LD H,C` (R160). -/
def execLdHC (s : State) : Result := ldRegReg .h .c s

/-- 0x62 `LD H,D` (R160). -/
def execLdHD (s : State) : Result := ldRegReg .h .d s

/-- 0x63 `LD H,E` (R160). -/
def execLdHE (s : State) : Result := ldRegReg .h .e s

/-- 0x64 `LD H,H` (R160). -/
def execLdHH (s : State) : Result := ldRegReg .h .h s

/-- 0x65 `LD H,L` (R160). -/
def execLdHL (s : State) : Result := ldRegReg .h .l s

/-- 0x67 `LD H,A` (R160). -/
def execLdHA (s : State) : Result := ldRegReg .h .a s

/-- 0x68 `LD L,B` (R160). -/
def execLdLB (s : State) : Result := ldRegReg .l .b s

/-- 0x69 `LD L,C` (R160). -/
def execLdLC (s : State) : Result := ldRegReg .l .c s

/-- 0x6A `LD L,D` (R160). -/
def execLdLD (s : State) : Result := ldRegReg .l .d s

/-- 0x6B `LD L,E` (R160). -/
def execLdLE (s : State) : Result := ldRegReg .l .e s

/-- 0x6C `LD L,H` (R160). -/
def execLdLH (s : State) : Result := ldRegReg .l .h s

/-- 0x6D `LD L,L` (R160). -/
def execLdLL (s : State) : Result := ldRegReg .l .l s

/-- 0x6F `LD L,A` (R160). -/
def execLdLA (s : State) : Result := ldRegReg .l .a s

/-- 0x78 `LD A,B` (R160). -/
def execLdAB (s : State) : Result := ldRegReg .a .b s

/-- 0x79 `LD A,C` (R160). -/
def execLdAC (s : State) : Result := ldRegReg .a .c s

/-- 0x7A `LD A,D` (R160). -/
def execLdAD (s : State) : Result := ldRegReg .a .d s

/-- 0x7B `LD A,E` (R160). -/
def execLdAE (s : State) : Result := ldRegReg .a .e s

/-- 0x7C `LD A,H` (R160). -/
def execLdAH (s : State) : Result := ldRegReg .a .h s

/-- 0x7D `LD A,L` (R160). -/
def execLdAL (s : State) : Result := ldRegReg .a .l s

/-- 0x7F `LD A,A` (R160). -/
def execLdAA (s : State) : Result := ldRegReg .a .a s

/-! ### The rows of `ldRegImm` -/

/-- 0x06 `LD B,d8` (R161). -/
def execLdBD8 (n : Byte) (s : State) : Result := ldRegImm .b n s

/-- 0x0E `LD C,d8` (R161). -/
def execLdCD8 (n : Byte) (s : State) : Result := ldRegImm .c n s

/-- 0x16 `LD D,d8` (R161). -/
def execLdDD8 (n : Byte) (s : State) : Result := ldRegImm .d n s

/-- 0x1E `LD E,d8` (R161). -/
def execLdED8 (n : Byte) (s : State) : Result := ldRegImm .e n s

/-- 0x26 `LD H,d8` (R161). -/
def execLdHD8 (n : Byte) (s : State) : Result := ldRegImm .h n s

/-- 0x2E `LD L,d8` (R161). -/
def execLdLD8 (n : Byte) (s : State) : Result := ldRegImm .l n s

/-- 0x3E `LD A,d8` (R161). -/
def execLdAD8 (n : Byte) (s : State) : Result := ldRegImm .a n s

/-! ### The rows of `ldRegHl` -/

/-- 0x46 `LD B,(HL)` (R162). -/
def execLdBIndHl (s : State) : Result := ldRegHl .b s

/-- 0x4E `LD C,(HL)` (R162). -/
def execLdCIndHl (s : State) : Result := ldRegHl .c s

/-- 0x56 `LD D,(HL)` (R162). -/
def execLdDIndHl (s : State) : Result := ldRegHl .d s

/-- 0x5E `LD E,(HL)` (R162). -/
def execLdEIndHl (s : State) : Result := ldRegHl .e s

/-- 0x66 `LD H,(HL)` (R162). -/
def execLdHIndHl (s : State) : Result := ldRegHl .h s

/-- 0x6E `LD L,(HL)` (R162). -/
def execLdLIndHl (s : State) : Result := ldRegHl .l s

/-- 0x7E `LD A,(HL)` (R162). -/
def execLdAIndHl (s : State) : Result := ldRegHl .a s

/-! ### The rows of `ldHlReg` -/

/-- 0x70 `LD (HL),B` (R163). -/
def execLdIndHlB (s : State) : Result := ldHlReg .b s

/-- 0x71 `LD (HL),C` (R163). -/
def execLdIndHlC (s : State) : Result := ldHlReg .c s

/-- 0x72 `LD (HL),D` (R163). -/
def execLdIndHlD (s : State) : Result := ldHlReg .d s

/-- 0x73 `LD (HL),E` (R163). -/
def execLdIndHlE (s : State) : Result := ldHlReg .e s

/-- 0x74 `LD (HL),H` (R163). -/
def execLdIndHlH (s : State) : Result := ldHlReg .h s

/-- 0x75 `LD (HL),L` (R163). -/
def execLdIndHlL (s : State) : Result := ldHlReg .l s

/-- 0x77 `LD (HL),A` (R163). -/
def execLdIndHlA (s : State) : Result := ldHlReg .a s

/-! ### The rows of `ldHlImm` -/

/-- 0x36 `LD (HL),d8` (R164). -/
def execLdIndHlD8 (n : Byte) (s : State) : Result := ldHlImm n s

/-! ### The rows of `ldAInd` -/

/-- 0x0A `LD A,(BC)` (R165). -/
def execLdAIndBc (s : State) : Result := ldAInd .bc s

/-- 0x1A `LD A,(DE)` (R166). -/
def execLdAIndDe (s : State) : Result := ldAInd .de s

/-- 0x2A `LD A,(HL+)` (R177). -/
def execLdAIndHlInc (s : State) : Result := ldAInd .hlInc s

/-- 0x3A `LD A,(HL-)` (R178). -/
def execLdAIndHlDec (s : State) : Result := ldAInd .hlDec s

/-! ### The rows of `ldIndA` -/

/-- 0x02 `LD (BC),A` (R167). -/
def execLdIndBcA (s : State) : Result := ldIndA .bc s

/-- 0x12 `LD (DE),A` (R168). -/
def execLdIndDeA (s : State) : Result := ldIndA .de s

/-- 0x22 `LD (HL+),A` (R175). -/
def execLdIndHlIncA (s : State) : Result := ldIndA .hlInc s

/-- 0x32 `LD (HL-),A` (R176). -/
def execLdIndHlDecA (s : State) : Result := ldIndA .hlDec s

/-! ### The rows of `ldAAbs` -/

/-- 0xFA `LD A,(a16)` (R169). -/
def execLdAIndA16 (a : Word) (s : State) : Result := ldAAbs a s

/-! ### The rows of `ldAbsA` -/

/-- 0xEA `LD (a16),A` (R170). -/
def execLdIndA16A (a : Word) (s : State) : Result := ldAbsA a s

/-! ### The rows of `ldhAImm` -/

/-- 0xF0 `LDH A,(a8)` (R171). -/
def execLdhAIndA8 (a : Byte) (s : State) : Result := ldhAImm a s

/-! ### The rows of `ldhImmA` -/

/-- 0xE0 `LDH (a8),A` (R172). -/
def execLdhIndA8A (a : Byte) (s : State) : Result := ldhImmA a s

/-! ### The rows of `ldhAC` -/

/-- 0xF2 `LDH A,(C)` (R173). -/
def execLdhAIndC (s : State) : Result := ldhAC s

/-! ### The rows of `ldhCA` -/

/-- 0xE2 `LDH (C),A` (R174). -/
def execLdhIndCA (s : State) : Result := ldhCA s

end Sys2Proof.Machine
end

