-- ==== Sys2Proof/Machine/Rotate.lean ====
section
/-! DEFINITION. Rotates and shifts: the four accumulator rotates (R250 to R253) and the eight operations of the extended
table, on a register or on `(HL)` (R254 to R262). -/

namespace Sys2Proof.Machine

/-- `RLCA`, `RLA`, `RRCA`, `RRA` (R250 to R253). -/
def accRot (op : AccRotOp) (s : State) : Result :=
  .next ((s.setReg .a (accRot8 op s.a s.flagC).1).setFlags (accRot8 op s.a s.flagC).2)

/-- A rotate or shift of a register (R254). -/
def rotReg (op : RotOp) (r : Reg8) (s : State) : Result :=
  .next ((s.setReg r (rot8 op (s.reg r) s.flagC).1).setFlags (rot8 op (s.reg r) s.flagC).2)

/-- A rotate or shift of the byte at HL: one read, then one write and the flags (R254). -/
def rotHl (op : RotOp) (s : State) : Result :=
  let x := rot8 op (s.nextCycle.read8 s.hl) s.flagC
  .next ((s.nextCycle.nextCycle.write8 s.hl x.1).setFlags x.2)

/-! ### The rows of `accRot` -/

/-- 0x07 `RLCA` (R250). -/
def execRlca (s : State) : Result := accRot .rlca s

/-- 0x0F `RRCA` (R252). -/
def execRrca (s : State) : Result := accRot .rrca s

/-- 0x17 `RLA` (R251). -/
def execRla (s : State) : Result := accRot .rla s

/-- 0x1F `RRA` (R253). -/
def execRra (s : State) : Result := accRot .rra s

/-! ### The rows of `rotReg` -/

/-- 0xCB 0x00 `RLC B` (R255). -/
def execCbRlcB (s : State) : Result := rotReg .rlc .b s

/-- 0xCB 0x01 `RLC C` (R255). -/
def execCbRlcC (s : State) : Result := rotReg .rlc .c s

/-- 0xCB 0x02 `RLC D` (R255). -/
def execCbRlcD (s : State) : Result := rotReg .rlc .d s

/-- 0xCB 0x03 `RLC E` (R255). -/
def execCbRlcE (s : State) : Result := rotReg .rlc .e s

/-- 0xCB 0x04 `RLC H` (R255). -/
def execCbRlcH (s : State) : Result := rotReg .rlc .h s

/-- 0xCB 0x05 `RLC L` (R255). -/
def execCbRlcL (s : State) : Result := rotReg .rlc .l s

/-- 0xCB 0x07 `RLC A` (R255). -/
def execCbRlcA (s : State) : Result := rotReg .rlc .a s

/-- 0xCB 0x08 `RRC B` (R256). -/
def execCbRrcB (s : State) : Result := rotReg .rrc .b s

/-- 0xCB 0x09 `RRC C` (R256). -/
def execCbRrcC (s : State) : Result := rotReg .rrc .c s

/-- 0xCB 0x0A `RRC D` (R256). -/
def execCbRrcD (s : State) : Result := rotReg .rrc .d s

/-- 0xCB 0x0B `RRC E` (R256). -/
def execCbRrcE (s : State) : Result := rotReg .rrc .e s

/-- 0xCB 0x0C `RRC H` (R256). -/
def execCbRrcH (s : State) : Result := rotReg .rrc .h s

/-- 0xCB 0x0D `RRC L` (R256). -/
def execCbRrcL (s : State) : Result := rotReg .rrc .l s

/-- 0xCB 0x0F `RRC A` (R256). -/
def execCbRrcA (s : State) : Result := rotReg .rrc .a s

/-- 0xCB 0x10 `RL B` (R257). -/
def execCbRlB (s : State) : Result := rotReg .rl .b s

/-- 0xCB 0x11 `RL C` (R257). -/
def execCbRlC (s : State) : Result := rotReg .rl .c s

/-- 0xCB 0x12 `RL D` (R257). -/
def execCbRlD (s : State) : Result := rotReg .rl .d s

/-- 0xCB 0x13 `RL E` (R257). -/
def execCbRlE (s : State) : Result := rotReg .rl .e s

/-- 0xCB 0x14 `RL H` (R257). -/
def execCbRlH (s : State) : Result := rotReg .rl .h s

/-- 0xCB 0x15 `RL L` (R257). -/
def execCbRlL (s : State) : Result := rotReg .rl .l s

/-- 0xCB 0x17 `RL A` (R257). -/
def execCbRlA (s : State) : Result := rotReg .rl .a s

/-- 0xCB 0x18 `RR B` (R258). -/
def execCbRrB (s : State) : Result := rotReg .rr .b s

/-- 0xCB 0x19 `RR C` (R258). -/
def execCbRrC (s : State) : Result := rotReg .rr .c s

/-- 0xCB 0x1A `RR D` (R258). -/
def execCbRrD (s : State) : Result := rotReg .rr .d s

/-- 0xCB 0x1B `RR E` (R258). -/
def execCbRrE (s : State) : Result := rotReg .rr .e s

/-- 0xCB 0x1C `RR H` (R258). -/
def execCbRrH (s : State) : Result := rotReg .rr .h s

/-- 0xCB 0x1D `RR L` (R258). -/
def execCbRrL (s : State) : Result := rotReg .rr .l s

/-- 0xCB 0x1F `RR A` (R258). -/
def execCbRrA (s : State) : Result := rotReg .rr .a s

/-- 0xCB 0x20 `SLA B` (R259). -/
def execCbSlaB (s : State) : Result := rotReg .sla .b s

/-- 0xCB 0x21 `SLA C` (R259). -/
def execCbSlaC (s : State) : Result := rotReg .sla .c s

/-- 0xCB 0x22 `SLA D` (R259). -/
def execCbSlaD (s : State) : Result := rotReg .sla .d s

/-- 0xCB 0x23 `SLA E` (R259). -/
def execCbSlaE (s : State) : Result := rotReg .sla .e s

/-- 0xCB 0x24 `SLA H` (R259). -/
def execCbSlaH (s : State) : Result := rotReg .sla .h s

/-- 0xCB 0x25 `SLA L` (R259). -/
def execCbSlaL (s : State) : Result := rotReg .sla .l s

/-- 0xCB 0x27 `SLA A` (R259). -/
def execCbSlaA (s : State) : Result := rotReg .sla .a s

/-- 0xCB 0x28 `SRA B` (R260). -/
def execCbSraB (s : State) : Result := rotReg .sra .b s

/-- 0xCB 0x29 `SRA C` (R260). -/
def execCbSraC (s : State) : Result := rotReg .sra .c s

/-- 0xCB 0x2A `SRA D` (R260). -/
def execCbSraD (s : State) : Result := rotReg .sra .d s

/-- 0xCB 0x2B `SRA E` (R260). -/
def execCbSraE (s : State) : Result := rotReg .sra .e s

/-- 0xCB 0x2C `SRA H` (R260). -/
def execCbSraH (s : State) : Result := rotReg .sra .h s

/-- 0xCB 0x2D `SRA L` (R260). -/
def execCbSraL (s : State) : Result := rotReg .sra .l s

/-- 0xCB 0x2F `SRA A` (R260). -/
def execCbSraA (s : State) : Result := rotReg .sra .a s

/-- 0xCB 0x30 `SWAP B` (R261). -/
def execCbSwapB (s : State) : Result := rotReg .swap .b s

/-- 0xCB 0x31 `SWAP C` (R261). -/
def execCbSwapC (s : State) : Result := rotReg .swap .c s

/-- 0xCB 0x32 `SWAP D` (R261). -/
def execCbSwapD (s : State) : Result := rotReg .swap .d s

/-- 0xCB 0x33 `SWAP E` (R261). -/
def execCbSwapE (s : State) : Result := rotReg .swap .e s

/-- 0xCB 0x34 `SWAP H` (R261). -/
def execCbSwapH (s : State) : Result := rotReg .swap .h s

/-- 0xCB 0x35 `SWAP L` (R261). -/
def execCbSwapL (s : State) : Result := rotReg .swap .l s

/-- 0xCB 0x37 `SWAP A` (R261). -/
def execCbSwapA (s : State) : Result := rotReg .swap .a s

/-- 0xCB 0x38 `SRL B` (R262). -/
def execCbSrlB (s : State) : Result := rotReg .srl .b s

/-- 0xCB 0x39 `SRL C` (R262). -/
def execCbSrlC (s : State) : Result := rotReg .srl .c s

/-- 0xCB 0x3A `SRL D` (R262). -/
def execCbSrlD (s : State) : Result := rotReg .srl .d s

/-- 0xCB 0x3B `SRL E` (R262). -/
def execCbSrlE (s : State) : Result := rotReg .srl .e s

/-- 0xCB 0x3C `SRL H` (R262). -/
def execCbSrlH (s : State) : Result := rotReg .srl .h s

/-- 0xCB 0x3D `SRL L` (R262). -/
def execCbSrlL (s : State) : Result := rotReg .srl .l s

/-- 0xCB 0x3F `SRL A` (R262). -/
def execCbSrlA (s : State) : Result := rotReg .srl .a s

/-! ### The rows of `rotHl` -/

/-- 0xCB 0x06 `RLC (HL)` (R255). -/
def execCbRlcIndHl (s : State) : Result := rotHl .rlc s

/-- 0xCB 0x0E `RRC (HL)` (R256). -/
def execCbRrcIndHl (s : State) : Result := rotHl .rrc s

/-- 0xCB 0x16 `RL (HL)` (R257). -/
def execCbRlIndHl (s : State) : Result := rotHl .rl s

/-- 0xCB 0x1E `RR (HL)` (R258). -/
def execCbRrIndHl (s : State) : Result := rotHl .rr s

/-- 0xCB 0x26 `SLA (HL)` (R259). -/
def execCbSlaIndHl (s : State) : Result := rotHl .sla s

/-- 0xCB 0x2E `SRA (HL)` (R260). -/
def execCbSraIndHl (s : State) : Result := rotHl .sra s

/-- 0xCB 0x36 `SWAP (HL)` (R261). -/
def execCbSwapIndHl (s : State) : Result := rotHl .swap s

/-- 0xCB 0x3E `SRL (HL)` (R262). -/
def execCbSrlIndHl (s : State) : Result := rotHl .srl s

end Sys2Proof.Machine
end

