-- ==== Sys2Proof/Machine/System.lean ====
section
/-! DEFINITION. NOP, HALT, STOP, DI, EI, the table-selecting byte and the eleven unassigned opcodes (R305 to R311). -/

namespace Sys2Proof.Machine

/-- `NOP` (R305). -/
def nop (s : State) : Result := .next s

/-- `HALT` (R306): the halt-bug marker, or the state Halted. -/
def halt (s : State) : Result :=
  if s.ime = false ∧ s.wakePending = true then .next { s with haltBug := true } else .next { s with engine := .halted }

/-- `STOP` (R307): the state Stopped; PC passes a second byte only under STOP_SKIP (log 9). -/
def stop (s : State) : Result :=
  .next { s with engine := .stopped, pc := if Config.stopSkip then s.pc + 1 else s.pc }

/-- `DI` (R308). -/
def di (s : State) : Result := .next s.disableImmediately

/-- `EI` (R309). -/
def ei (s : State) : Result := .next (s.scheduleEnable true)

/-- The table-selecting byte: the engine goes on to FetchExtendedPrefix (R310; log 12). -/
def cbTable (s : State) : Result := .next { s with engine := .fetchExtendedPrefix }

/-- An unassigned opcode: the engine faults and no state is defined (R311, R330; U1). -/
def unassigned (op : Byte) (_s : State) : Result := .fault (.unknownOpcode op)

/-! ### The rows of `nop` -/

/-- 0x00 `NOP` (R305). -/
def execNop (s : State) : Result := nop s

/-! ### The rows of `halt` -/

/-- 0x76 `HALT` (R306). -/
def execHalt (s : State) : Result := halt s

/-! ### The rows of `stop` -/

/-- 0x10 `STOP` (R307). -/
def execStop (s : State) : Result := stop s

/-! ### The rows of `di` -/

/-- 0xF3 `DI` (R308). -/
def execDi (s : State) : Result := di s

/-! ### The rows of `ei` -/

/-- 0xFB `EI` (R309). -/
def execEi (s : State) : Result := ei s

/-! ### The rows of `cbTable` -/

/-- 0xCB `PREFIX CB` (R310). -/
def execPrefixCb (s : State) : Result := cbTable s

/-! ### The rows of `unassigned` -/

/-- 0xD3 `ILLEGAL_D3` (R311). -/
def execIllegalD3 (s : State) : Result := unassigned 0xD3 s

/-- 0xDB `ILLEGAL_DB` (R311). -/
def execIllegalDB (s : State) : Result := unassigned 0xDB s

/-- 0xDD `ILLEGAL_DD` (R311). -/
def execIllegalDD (s : State) : Result := unassigned 0xDD s

/-- 0xE3 `ILLEGAL_E3` (R311). -/
def execIllegalE3 (s : State) : Result := unassigned 0xE3 s

/-- 0xE4 `ILLEGAL_E4` (R311). -/
def execIllegalE4 (s : State) : Result := unassigned 0xE4 s

/-- 0xEB `ILLEGAL_EB` (R311). -/
def execIllegalEB (s : State) : Result := unassigned 0xEB s

/-- 0xEC `ILLEGAL_EC` (R311). -/
def execIllegalEC (s : State) : Result := unassigned 0xEC s

/-- 0xED `ILLEGAL_ED` (R311). -/
def execIllegalED (s : State) : Result := unassigned 0xED s

/-- 0xF4 `ILLEGAL_F4` (R311). -/
def execIllegalF4 (s : State) : Result := unassigned 0xF4 s

/-- 0xFC `ILLEGAL_FC` (R311). -/
def execIllegalFC (s : State) : Result := unassigned 0xFC s

/-- 0xFD `ILLEGAL_FD` (R311). -/
def execIllegalFD (s : State) : Result := unassigned 0xFD s

end Sys2Proof.Machine
end

