-- ==== Sys2Proof/Machine/Dispatch.lean ====
section
/-! DEFINITION. The dispatch: one arm per row of spec/opcode_table.json, in the table's order, each one direct call of the
row's own meaning. -/

namespace Sys2Proof.Machine

def exec (i : Instr) (s : State) : Host.Outcome State Fault Refusal :=
  match i with
  | .nop => Sys2Proof.Machine.execNop s
  | .ldBcD16 n => Sys2Proof.Machine.execLdBcD16 n s
  | .ldIndBcA => Sys2Proof.Machine.execLdIndBcA s
  | .incBc => Sys2Proof.Machine.execIncBc s
  | .incB => Sys2Proof.Machine.execIncB s
  | .decB => Sys2Proof.Machine.execDecB s
  | .ldBD8 n => Sys2Proof.Machine.execLdBD8 n s
  | .rlca => Sys2Proof.Machine.execRlca s
  | .ldIndA16Sp a => Sys2Proof.Machine.execLdIndA16Sp a s
  | .addHlBc => Sys2Proof.Machine.execAddHlBc s
  | .ldAIndBc => Sys2Proof.Machine.execLdAIndBc s
  | .decBc => Sys2Proof.Machine.execDecBc s
  | .incC => Sys2Proof.Machine.execIncC s
  | .decC => Sys2Proof.Machine.execDecC s
  | .ldCD8 n => Sys2Proof.Machine.execLdCD8 n s
  | .rrca => Sys2Proof.Machine.execRrca s
  | .stop => Sys2Proof.Machine.execStop s
  | .ldDeD16 n => Sys2Proof.Machine.execLdDeD16 n s
  | .ldIndDeA => Sys2Proof.Machine.execLdIndDeA s
  | .incDe => Sys2Proof.Machine.execIncDe s
  | .incD => Sys2Proof.Machine.execIncD s
  | .decD => Sys2Proof.Machine.execDecD s
  | .ldDD8 n => Sys2Proof.Machine.execLdDD8 n s
  | .rla => Sys2Proof.Machine.execRla s
  | .jrE8 e => Sys2Proof.Machine.execJrE8 e s
  | .addHlDe => Sys2Proof.Machine.execAddHlDe s
  | .ldAIndDe => Sys2Proof.Machine.execLdAIndDe s
  | .decDe => Sys2Proof.Machine.execDecDe s
  | .incE => Sys2Proof.Machine.execIncE s
  | .decE => Sys2Proof.Machine.execDecE s
  | .ldED8 n => Sys2Proof.Machine.execLdED8 n s
  | .rra => Sys2Proof.Machine.execRra s
  | .jrNzE8 e => Sys2Proof.Machine.execJrNzE8 e s
  | .ldHlD16 n => Sys2Proof.Machine.execLdHlD16 n s
  | .ldIndHlIncA => Sys2Proof.Machine.execLdIndHlIncA s
  | .incHl => Sys2Proof.Machine.execIncHl s
  | .incH => Sys2Proof.Machine.execIncH s
  | .decH => Sys2Proof.Machine.execDecH s
  | .ldHD8 n => Sys2Proof.Machine.execLdHD8 n s
  | .daa => Sys2Proof.Machine.execDaa s
  | .jrZE8 e => Sys2Proof.Machine.execJrZE8 e s
  | .addHlHl => Sys2Proof.Machine.execAddHlHl s
  | .ldAIndHlInc => Sys2Proof.Machine.execLdAIndHlInc s
  | .decHl => Sys2Proof.Machine.execDecHl s
  | .incL => Sys2Proof.Machine.execIncL s
  | .decL => Sys2Proof.Machine.execDecL s
  | .ldLD8 n => Sys2Proof.Machine.execLdLD8 n s
  | .cpl => Sys2Proof.Machine.execCpl s
  | .jrNcE8 e => Sys2Proof.Machine.execJrNcE8 e s
  | .ldSpD16 n => Sys2Proof.Machine.execLdSpD16 n s
  | .ldIndHlDecA => Sys2Proof.Machine.execLdIndHlDecA s
  | .incSp => Sys2Proof.Machine.execIncSp s
  | .incIndHl => Sys2Proof.Machine.execIncIndHl s
  | .decIndHl => Sys2Proof.Machine.execDecIndHl s
  | .ldIndHlD8 n => Sys2Proof.Machine.execLdIndHlD8 n s
  | .scf => Sys2Proof.Machine.execScf s
  | .jrCE8 e => Sys2Proof.Machine.execJrCE8 e s
  | .addHlSp => Sys2Proof.Machine.execAddHlSp s
  | .ldAIndHlDec => Sys2Proof.Machine.execLdAIndHlDec s
  | .decSp => Sys2Proof.Machine.execDecSp s
  | .incA => Sys2Proof.Machine.execIncA s
  | .decA => Sys2Proof.Machine.execDecA s
  | .ldAD8 n => Sys2Proof.Machine.execLdAD8 n s
  | .ccf => Sys2Proof.Machine.execCcf s
  | .ldBB => Sys2Proof.Machine.execLdBB s
  | .ldBC => Sys2Proof.Machine.execLdBC s
  | .ldBD => Sys2Proof.Machine.execLdBD s
  | .ldBE => Sys2Proof.Machine.execLdBE s
  | .ldBH => Sys2Proof.Machine.execLdBH s
  | .ldBL => Sys2Proof.Machine.execLdBL s
  | .ldBIndHl => Sys2Proof.Machine.execLdBIndHl s
  | .ldBA => Sys2Proof.Machine.execLdBA s
  | .ldCB => Sys2Proof.Machine.execLdCB s
  | .ldCC => Sys2Proof.Machine.execLdCC s
  | .ldCD => Sys2Proof.Machine.execLdCD s
  | .ldCE => Sys2Proof.Machine.execLdCE s
  | .ldCH => Sys2Proof.Machine.execLdCH s
  | .ldCL => Sys2Proof.Machine.execLdCL s
  | .ldCIndHl => Sys2Proof.Machine.execLdCIndHl s
  | .ldCA => Sys2Proof.Machine.execLdCA s
  | .ldDB => Sys2Proof.Machine.execLdDB s
  | .ldDC => Sys2Proof.Machine.execLdDC s
  | .ldDD => Sys2Proof.Machine.execLdDD s
  | .ldDE => Sys2Proof.Machine.execLdDE s
  | .ldDH => Sys2Proof.Machine.execLdDH s
  | .ldDL => Sys2Proof.Machine.execLdDL s
  | .ldDIndHl => Sys2Proof.Machine.execLdDIndHl s
  | .ldDA => Sys2Proof.Machine.execLdDA s
  | .ldEB => Sys2Proof.Machine.execLdEB s
  | .ldEC => Sys2Proof.Machine.execLdEC s
  | .ldED => Sys2Proof.Machine.execLdED s
  | .ldEE => Sys2Proof.Machine.execLdEE s
  | .ldEH => Sys2Proof.Machine.execLdEH s
  | .ldEL => Sys2Proof.Machine.execLdEL s
  | .ldEIndHl => Sys2Proof.Machine.execLdEIndHl s
  | .ldEA => Sys2Proof.Machine.execLdEA s
  | .ldHB => Sys2Proof.Machine.execLdHB s
  | .ldHC => Sys2Proof.Machine.execLdHC s
  | .ldHD => Sys2Proof.Machine.execLdHD s
  | .ldHE => Sys2Proof.Machine.execLdHE s
  | .ldHH => Sys2Proof.Machine.execLdHH s
  | .ldHL => Sys2Proof.Machine.execLdHL s
  | .ldHIndHl => Sys2Proof.Machine.execLdHIndHl s
  | .ldHA => Sys2Proof.Machine.execLdHA s
  | .ldLB => Sys2Proof.Machine.execLdLB s
  | .ldLC => Sys2Proof.Machine.execLdLC s
  | .ldLD => Sys2Proof.Machine.execLdLD s
  | .ldLE => Sys2Proof.Machine.execLdLE s
  | .ldLH => Sys2Proof.Machine.execLdLH s
  | .ldLL => Sys2Proof.Machine.execLdLL s
  | .ldLIndHl => Sys2Proof.Machine.execLdLIndHl s
  | .ldLA => Sys2Proof.Machine.execLdLA s
  | .ldIndHlB => Sys2Proof.Machine.execLdIndHlB s
  | .ldIndHlC => Sys2Proof.Machine.execLdIndHlC s
  | .ldIndHlD => Sys2Proof.Machine.execLdIndHlD s
  | .ldIndHlE => Sys2Proof.Machine.execLdIndHlE s
  | .ldIndHlH => Sys2Proof.Machine.execLdIndHlH s
  | .ldIndHlL => Sys2Proof.Machine.execLdIndHlL s
  | .halt => Sys2Proof.Machine.execHalt s
  | .ldIndHlA => Sys2Proof.Machine.execLdIndHlA s
  | .ldAB => Sys2Proof.Machine.execLdAB s
  | .ldAC => Sys2Proof.Machine.execLdAC s
  | .ldAD => Sys2Proof.Machine.execLdAD s
  | .ldAE => Sys2Proof.Machine.execLdAE s
  | .ldAH => Sys2Proof.Machine.execLdAH s
  | .ldAL => Sys2Proof.Machine.execLdAL s
  | .ldAIndHl => Sys2Proof.Machine.execLdAIndHl s
  | .ldAA => Sys2Proof.Machine.execLdAA s
  | .addAB => Sys2Proof.Machine.execAddAB s
  | .addAC => Sys2Proof.Machine.execAddAC s
  | .addAD => Sys2Proof.Machine.execAddAD s
  | .addAE => Sys2Proof.Machine.execAddAE s
  | .addAH => Sys2Proof.Machine.execAddAH s
  | .addAL => Sys2Proof.Machine.execAddAL s
  | .addAIndHl => Sys2Proof.Machine.execAddAIndHl s
  | .addAA => Sys2Proof.Machine.execAddAA s
  | .adcAB => Sys2Proof.Machine.execAdcAB s
  | .adcAC => Sys2Proof.Machine.execAdcAC s
  | .adcAD => Sys2Proof.Machine.execAdcAD s
  | .adcAE => Sys2Proof.Machine.execAdcAE s
  | .adcAH => Sys2Proof.Machine.execAdcAH s
  | .adcAL => Sys2Proof.Machine.execAdcAL s
  | .adcAIndHl => Sys2Proof.Machine.execAdcAIndHl s
  | .adcAA => Sys2Proof.Machine.execAdcAA s
  | .subAB => Sys2Proof.Machine.execSubAB s
  | .subAC => Sys2Proof.Machine.execSubAC s
  | .subAD => Sys2Proof.Machine.execSubAD s
  | .subAE => Sys2Proof.Machine.execSubAE s
  | .subAH => Sys2Proof.Machine.execSubAH s
  | .subAL => Sys2Proof.Machine.execSubAL s
  | .subAIndHl => Sys2Proof.Machine.execSubAIndHl s
  | .subAA => Sys2Proof.Machine.execSubAA s
  | .sbcAB => Sys2Proof.Machine.execSbcAB s
  | .sbcAC => Sys2Proof.Machine.execSbcAC s
  | .sbcAD => Sys2Proof.Machine.execSbcAD s
  | .sbcAE => Sys2Proof.Machine.execSbcAE s
  | .sbcAH => Sys2Proof.Machine.execSbcAH s
  | .sbcAL => Sys2Proof.Machine.execSbcAL s
  | .sbcAIndHl => Sys2Proof.Machine.execSbcAIndHl s
  | .sbcAA => Sys2Proof.Machine.execSbcAA s
  | .andAB => Sys2Proof.Machine.execAndAB s
  | .andAC => Sys2Proof.Machine.execAndAC s
  | .andAD => Sys2Proof.Machine.execAndAD s
  | .andAE => Sys2Proof.Machine.execAndAE s
  | .andAH => Sys2Proof.Machine.execAndAH s
  | .andAL => Sys2Proof.Machine.execAndAL s
  | .andAIndHl => Sys2Proof.Machine.execAndAIndHl s
  | .andAA => Sys2Proof.Machine.execAndAA s
  | .xorAB => Sys2Proof.Machine.execXorAB s
  | .xorAC => Sys2Proof.Machine.execXorAC s
  | .xorAD => Sys2Proof.Machine.execXorAD s
  | .xorAE => Sys2Proof.Machine.execXorAE s
  | .xorAH => Sys2Proof.Machine.execXorAH s
  | .xorAL => Sys2Proof.Machine.execXorAL s
  | .xorAIndHl => Sys2Proof.Machine.execXorAIndHl s
  | .xorAA => Sys2Proof.Machine.execXorAA s
  | .orAB => Sys2Proof.Machine.execOrAB s
  | .orAC => Sys2Proof.Machine.execOrAC s
  | .orAD => Sys2Proof.Machine.execOrAD s
  | .orAE => Sys2Proof.Machine.execOrAE s
  | .orAH => Sys2Proof.Machine.execOrAH s
  | .orAL => Sys2Proof.Machine.execOrAL s
  | .orAIndHl => Sys2Proof.Machine.execOrAIndHl s
  | .orAA => Sys2Proof.Machine.execOrAA s
  | .cpAB => Sys2Proof.Machine.execCpAB s
  | .cpAC => Sys2Proof.Machine.execCpAC s
  | .cpAD => Sys2Proof.Machine.execCpAD s
  | .cpAE => Sys2Proof.Machine.execCpAE s
  | .cpAH => Sys2Proof.Machine.execCpAH s
  | .cpAL => Sys2Proof.Machine.execCpAL s
  | .cpAIndHl => Sys2Proof.Machine.execCpAIndHl s
  | .cpAA => Sys2Proof.Machine.execCpAA s
  | .retNz => Sys2Proof.Machine.execRetNz s
  | .popBc => Sys2Proof.Machine.execPopBc s
  | .jpNzA16 a => Sys2Proof.Machine.execJpNzA16 a s
  | .jpA16 a => Sys2Proof.Machine.execJpA16 a s
  | .callNzA16 a => Sys2Proof.Machine.execCallNzA16 a s
  | .pushBc => Sys2Proof.Machine.execPushBc s
  | .addAD8 n => Sys2Proof.Machine.execAddAD8 n s
  | .rst00 => Sys2Proof.Machine.execRst00 s
  | .retZ => Sys2Proof.Machine.execRetZ s
  | .ret => Sys2Proof.Machine.execRet s
  | .jpZA16 a => Sys2Proof.Machine.execJpZA16 a s
  | .prefixCb => Sys2Proof.Machine.execPrefixCb s
  | .callZA16 a => Sys2Proof.Machine.execCallZA16 a s
  | .callA16 a => Sys2Proof.Machine.execCallA16 a s
  | .adcAD8 n => Sys2Proof.Machine.execAdcAD8 n s
  | .rst08 => Sys2Proof.Machine.execRst08 s
  | .retNc => Sys2Proof.Machine.execRetNc s
  | .popDe => Sys2Proof.Machine.execPopDe s
  | .jpNcA16 a => Sys2Proof.Machine.execJpNcA16 a s
  | .illegalD3 => Sys2Proof.Machine.execIllegalD3 s
  | .callNcA16 a => Sys2Proof.Machine.execCallNcA16 a s
  | .pushDe => Sys2Proof.Machine.execPushDe s
  | .subAD8 n => Sys2Proof.Machine.execSubAD8 n s
  | .rst10 => Sys2Proof.Machine.execRst10 s
  | .retC => Sys2Proof.Machine.execRetC s
  | .reti => Sys2Proof.Machine.execReti s
  | .jpCA16 a => Sys2Proof.Machine.execJpCA16 a s
  | .illegalDB => Sys2Proof.Machine.execIllegalDB s
  | .callCA16 a => Sys2Proof.Machine.execCallCA16 a s
  | .illegalDD => Sys2Proof.Machine.execIllegalDD s
  | .sbcAD8 n => Sys2Proof.Machine.execSbcAD8 n s
  | .rst18 => Sys2Proof.Machine.execRst18 s
  | .ldhIndA8A a => Sys2Proof.Machine.execLdhIndA8A a s
  | .popHl => Sys2Proof.Machine.execPopHl s
  | .ldhIndCA => Sys2Proof.Machine.execLdhIndCA s
  | .illegalE3 => Sys2Proof.Machine.execIllegalE3 s
  | .illegalE4 => Sys2Proof.Machine.execIllegalE4 s
  | .pushHl => Sys2Proof.Machine.execPushHl s
  | .andAD8 n => Sys2Proof.Machine.execAndAD8 n s
  | .rst20 => Sys2Proof.Machine.execRst20 s
  | .addSpE8 e => Sys2Proof.Machine.execAddSpE8 e s
  | .jpHl => Sys2Proof.Machine.execJpHl s
  | .ldIndA16A a => Sys2Proof.Machine.execLdIndA16A a s
  | .illegalEB => Sys2Proof.Machine.execIllegalEB s
  | .illegalEC => Sys2Proof.Machine.execIllegalEC s
  | .illegalED => Sys2Proof.Machine.execIllegalED s
  | .xorAD8 n => Sys2Proof.Machine.execXorAD8 n s
  | .rst28 => Sys2Proof.Machine.execRst28 s
  | .ldhAIndA8 a => Sys2Proof.Machine.execLdhAIndA8 a s
  | .popAf => Sys2Proof.Machine.execPopAf s
  | .ldhAIndC => Sys2Proof.Machine.execLdhAIndC s
  | .di => Sys2Proof.Machine.execDi s
  | .illegalF4 => Sys2Proof.Machine.execIllegalF4 s
  | .pushAf => Sys2Proof.Machine.execPushAf s
  | .orAD8 n => Sys2Proof.Machine.execOrAD8 n s
  | .rst30 => Sys2Proof.Machine.execRst30 s
  | .ldHlSpE8 e => Sys2Proof.Machine.execLdHlSpE8 e s
  | .ldSpHl => Sys2Proof.Machine.execLdSpHl s
  | .ldAIndA16 a => Sys2Proof.Machine.execLdAIndA16 a s
  | .ei => Sys2Proof.Machine.execEi s
  | .illegalFC => Sys2Proof.Machine.execIllegalFC s
  | .illegalFD => Sys2Proof.Machine.execIllegalFD s
  | .cpAD8 n => Sys2Proof.Machine.execCpAD8 n s
  | .rst38 => Sys2Proof.Machine.execRst38 s
  | .cbRlcB => Sys2Proof.Machine.execCbRlcB s
  | .cbRlcC => Sys2Proof.Machine.execCbRlcC s
  | .cbRlcD => Sys2Proof.Machine.execCbRlcD s
  | .cbRlcE => Sys2Proof.Machine.execCbRlcE s
  | .cbRlcH => Sys2Proof.Machine.execCbRlcH s
  | .cbRlcL => Sys2Proof.Machine.execCbRlcL s
  | .cbRlcIndHl => Sys2Proof.Machine.execCbRlcIndHl s
  | .cbRlcA => Sys2Proof.Machine.execCbRlcA s
  | .cbRrcB => Sys2Proof.Machine.execCbRrcB s
  | .cbRrcC => Sys2Proof.Machine.execCbRrcC s
  | .cbRrcD => Sys2Proof.Machine.execCbRrcD s
  | .cbRrcE => Sys2Proof.Machine.execCbRrcE s
  | .cbRrcH => Sys2Proof.Machine.execCbRrcH s
  | .cbRrcL => Sys2Proof.Machine.execCbRrcL s
  | .cbRrcIndHl => Sys2Proof.Machine.execCbRrcIndHl s
  | .cbRrcA => Sys2Proof.Machine.execCbRrcA s
  | .cbRlB => Sys2Proof.Machine.execCbRlB s
  | .cbRlC => Sys2Proof.Machine.execCbRlC s
  | .cbRlD => Sys2Proof.Machine.execCbRlD s
  | .cbRlE => Sys2Proof.Machine.execCbRlE s
  | .cbRlH => Sys2Proof.Machine.execCbRlH s
  | .cbRlL => Sys2Proof.Machine.execCbRlL s
  | .cbRlIndHl => Sys2Proof.Machine.execCbRlIndHl s
  | .cbRlA => Sys2Proof.Machine.execCbRlA s
  | .cbRrB => Sys2Proof.Machine.execCbRrB s
  | .cbRrC => Sys2Proof.Machine.execCbRrC s
  | .cbRrD => Sys2Proof.Machine.execCbRrD s
  | .cbRrE => Sys2Proof.Machine.execCbRrE s
  | .cbRrH => Sys2Proof.Machine.execCbRrH s
  | .cbRrL => Sys2Proof.Machine.execCbRrL s
  | .cbRrIndHl => Sys2Proof.Machine.execCbRrIndHl s
  | .cbRrA => Sys2Proof.Machine.execCbRrA s
  | .cbSlaB => Sys2Proof.Machine.execCbSlaB s
  | .cbSlaC => Sys2Proof.Machine.execCbSlaC s
  | .cbSlaD => Sys2Proof.Machine.execCbSlaD s
  | .cbSlaE => Sys2Proof.Machine.execCbSlaE s
  | .cbSlaH => Sys2Proof.Machine.execCbSlaH s
  | .cbSlaL => Sys2Proof.Machine.execCbSlaL s
  | .cbSlaIndHl => Sys2Proof.Machine.execCbSlaIndHl s
  | .cbSlaA => Sys2Proof.Machine.execCbSlaA s
  | .cbSraB => Sys2Proof.Machine.execCbSraB s
  | .cbSraC => Sys2Proof.Machine.execCbSraC s
  | .cbSraD => Sys2Proof.Machine.execCbSraD s
  | .cbSraE => Sys2Proof.Machine.execCbSraE s
  | .cbSraH => Sys2Proof.Machine.execCbSraH s
  | .cbSraL => Sys2Proof.Machine.execCbSraL s
  | .cbSraIndHl => Sys2Proof.Machine.execCbSraIndHl s
  | .cbSraA => Sys2Proof.Machine.execCbSraA s
  | .cbSwapB => Sys2Proof.Machine.execCbSwapB s
  | .cbSwapC => Sys2Proof.Machine.execCbSwapC s
  | .cbSwapD => Sys2Proof.Machine.execCbSwapD s
  | .cbSwapE => Sys2Proof.Machine.execCbSwapE s
  | .cbSwapH => Sys2Proof.Machine.execCbSwapH s
  | .cbSwapL => Sys2Proof.Machine.execCbSwapL s
  | .cbSwapIndHl => Sys2Proof.Machine.execCbSwapIndHl s
  | .cbSwapA => Sys2Proof.Machine.execCbSwapA s
  | .cbSrlB => Sys2Proof.Machine.execCbSrlB s
  | .cbSrlC => Sys2Proof.Machine.execCbSrlC s
  | .cbSrlD => Sys2Proof.Machine.execCbSrlD s
  | .cbSrlE => Sys2Proof.Machine.execCbSrlE s
  | .cbSrlH => Sys2Proof.Machine.execCbSrlH s
  | .cbSrlL => Sys2Proof.Machine.execCbSrlL s
  | .cbSrlIndHl => Sys2Proof.Machine.execCbSrlIndHl s
  | .cbSrlA => Sys2Proof.Machine.execCbSrlA s
  | .cbBit0B => Sys2Proof.Machine.execCbBit0B s
  | .cbBit0C => Sys2Proof.Machine.execCbBit0C s
  | .cbBit0D => Sys2Proof.Machine.execCbBit0D s
  | .cbBit0E => Sys2Proof.Machine.execCbBit0E s
  | .cbBit0H => Sys2Proof.Machine.execCbBit0H s
  | .cbBit0L => Sys2Proof.Machine.execCbBit0L s
  | .cbBit0IndHl => Sys2Proof.Machine.execCbBit0IndHl s
  | .cbBit0A => Sys2Proof.Machine.execCbBit0A s
  | .cbBit1B => Sys2Proof.Machine.execCbBit1B s
  | .cbBit1C => Sys2Proof.Machine.execCbBit1C s
  | .cbBit1D => Sys2Proof.Machine.execCbBit1D s
  | .cbBit1E => Sys2Proof.Machine.execCbBit1E s
  | .cbBit1H => Sys2Proof.Machine.execCbBit1H s
  | .cbBit1L => Sys2Proof.Machine.execCbBit1L s
  | .cbBit1IndHl => Sys2Proof.Machine.execCbBit1IndHl s
  | .cbBit1A => Sys2Proof.Machine.execCbBit1A s
  | .cbBit2B => Sys2Proof.Machine.execCbBit2B s
  | .cbBit2C => Sys2Proof.Machine.execCbBit2C s
  | .cbBit2D => Sys2Proof.Machine.execCbBit2D s
  | .cbBit2E => Sys2Proof.Machine.execCbBit2E s
  | .cbBit2H => Sys2Proof.Machine.execCbBit2H s
  | .cbBit2L => Sys2Proof.Machine.execCbBit2L s
  | .cbBit2IndHl => Sys2Proof.Machine.execCbBit2IndHl s
  | .cbBit2A => Sys2Proof.Machine.execCbBit2A s
  | .cbBit3B => Sys2Proof.Machine.execCbBit3B s
  | .cbBit3C => Sys2Proof.Machine.execCbBit3C s
  | .cbBit3D => Sys2Proof.Machine.execCbBit3D s
  | .cbBit3E => Sys2Proof.Machine.execCbBit3E s
  | .cbBit3H => Sys2Proof.Machine.execCbBit3H s
  | .cbBit3L => Sys2Proof.Machine.execCbBit3L s
  | .cbBit3IndHl => Sys2Proof.Machine.execCbBit3IndHl s
  | .cbBit3A => Sys2Proof.Machine.execCbBit3A s
  | .cbBit4B => Sys2Proof.Machine.execCbBit4B s
  | .cbBit4C => Sys2Proof.Machine.execCbBit4C s
  | .cbBit4D => Sys2Proof.Machine.execCbBit4D s
  | .cbBit4E => Sys2Proof.Machine.execCbBit4E s
  | .cbBit4H => Sys2Proof.Machine.execCbBit4H s
  | .cbBit4L => Sys2Proof.Machine.execCbBit4L s
  | .cbBit4IndHl => Sys2Proof.Machine.execCbBit4IndHl s
  | .cbBit4A => Sys2Proof.Machine.execCbBit4A s
  | .cbBit5B => Sys2Proof.Machine.execCbBit5B s
  | .cbBit5C => Sys2Proof.Machine.execCbBit5C s
  | .cbBit5D => Sys2Proof.Machine.execCbBit5D s
  | .cbBit5E => Sys2Proof.Machine.execCbBit5E s
  | .cbBit5H => Sys2Proof.Machine.execCbBit5H s
  | .cbBit5L => Sys2Proof.Machine.execCbBit5L s
  | .cbBit5IndHl => Sys2Proof.Machine.execCbBit5IndHl s
  | .cbBit5A => Sys2Proof.Machine.execCbBit5A s
  | .cbBit6B => Sys2Proof.Machine.execCbBit6B s
  | .cbBit6C => Sys2Proof.Machine.execCbBit6C s
  | .cbBit6D => Sys2Proof.Machine.execCbBit6D s
  | .cbBit6E => Sys2Proof.Machine.execCbBit6E s
  | .cbBit6H => Sys2Proof.Machine.execCbBit6H s
  | .cbBit6L => Sys2Proof.Machine.execCbBit6L s
  | .cbBit6IndHl => Sys2Proof.Machine.execCbBit6IndHl s
  | .cbBit6A => Sys2Proof.Machine.execCbBit6A s
  | .cbBit7B => Sys2Proof.Machine.execCbBit7B s
  | .cbBit7C => Sys2Proof.Machine.execCbBit7C s
  | .cbBit7D => Sys2Proof.Machine.execCbBit7D s
  | .cbBit7E => Sys2Proof.Machine.execCbBit7E s
  | .cbBit7H => Sys2Proof.Machine.execCbBit7H s
  | .cbBit7L => Sys2Proof.Machine.execCbBit7L s
  | .cbBit7IndHl => Sys2Proof.Machine.execCbBit7IndHl s
  | .cbBit7A => Sys2Proof.Machine.execCbBit7A s
  | .cbRes0B => Sys2Proof.Machine.execCbRes0B s
  | .cbRes0C => Sys2Proof.Machine.execCbRes0C s
  | .cbRes0D => Sys2Proof.Machine.execCbRes0D s
  | .cbRes0E => Sys2Proof.Machine.execCbRes0E s
  | .cbRes0H => Sys2Proof.Machine.execCbRes0H s
  | .cbRes0L => Sys2Proof.Machine.execCbRes0L s
  | .cbRes0IndHl => Sys2Proof.Machine.execCbRes0IndHl s
  | .cbRes0A => Sys2Proof.Machine.execCbRes0A s
  | .cbRes1B => Sys2Proof.Machine.execCbRes1B s
  | .cbRes1C => Sys2Proof.Machine.execCbRes1C s
  | .cbRes1D => Sys2Proof.Machine.execCbRes1D s
  | .cbRes1E => Sys2Proof.Machine.execCbRes1E s
  | .cbRes1H => Sys2Proof.Machine.execCbRes1H s
  | .cbRes1L => Sys2Proof.Machine.execCbRes1L s
  | .cbRes1IndHl => Sys2Proof.Machine.execCbRes1IndHl s
  | .cbRes1A => Sys2Proof.Machine.execCbRes1A s
  | .cbRes2B => Sys2Proof.Machine.execCbRes2B s
  | .cbRes2C => Sys2Proof.Machine.execCbRes2C s
  | .cbRes2D => Sys2Proof.Machine.execCbRes2D s
  | .cbRes2E => Sys2Proof.Machine.execCbRes2E s
  | .cbRes2H => Sys2Proof.Machine.execCbRes2H s
  | .cbRes2L => Sys2Proof.Machine.execCbRes2L s
  | .cbRes2IndHl => Sys2Proof.Machine.execCbRes2IndHl s
  | .cbRes2A => Sys2Proof.Machine.execCbRes2A s
  | .cbRes3B => Sys2Proof.Machine.execCbRes3B s
  | .cbRes3C => Sys2Proof.Machine.execCbRes3C s
  | .cbRes3D => Sys2Proof.Machine.execCbRes3D s
  | .cbRes3E => Sys2Proof.Machine.execCbRes3E s
  | .cbRes3H => Sys2Proof.Machine.execCbRes3H s
  | .cbRes3L => Sys2Proof.Machine.execCbRes3L s
  | .cbRes3IndHl => Sys2Proof.Machine.execCbRes3IndHl s
  | .cbRes3A => Sys2Proof.Machine.execCbRes3A s
  | .cbRes4B => Sys2Proof.Machine.execCbRes4B s
  | .cbRes4C => Sys2Proof.Machine.execCbRes4C s
  | .cbRes4D => Sys2Proof.Machine.execCbRes4D s
  | .cbRes4E => Sys2Proof.Machine.execCbRes4E s
  | .cbRes4H => Sys2Proof.Machine.execCbRes4H s
  | .cbRes4L => Sys2Proof.Machine.execCbRes4L s
  | .cbRes4IndHl => Sys2Proof.Machine.execCbRes4IndHl s
  | .cbRes4A => Sys2Proof.Machine.execCbRes4A s
  | .cbRes5B => Sys2Proof.Machine.execCbRes5B s
  | .cbRes5C => Sys2Proof.Machine.execCbRes5C s
  | .cbRes5D => Sys2Proof.Machine.execCbRes5D s
  | .cbRes5E => Sys2Proof.Machine.execCbRes5E s
  | .cbRes5H => Sys2Proof.Machine.execCbRes5H s
  | .cbRes5L => Sys2Proof.Machine.execCbRes5L s
  | .cbRes5IndHl => Sys2Proof.Machine.execCbRes5IndHl s
  | .cbRes5A => Sys2Proof.Machine.execCbRes5A s
  | .cbRes6B => Sys2Proof.Machine.execCbRes6B s
  | .cbRes6C => Sys2Proof.Machine.execCbRes6C s
  | .cbRes6D => Sys2Proof.Machine.execCbRes6D s
  | .cbRes6E => Sys2Proof.Machine.execCbRes6E s
  | .cbRes6H => Sys2Proof.Machine.execCbRes6H s
  | .cbRes6L => Sys2Proof.Machine.execCbRes6L s
  | .cbRes6IndHl => Sys2Proof.Machine.execCbRes6IndHl s
  | .cbRes6A => Sys2Proof.Machine.execCbRes6A s
  | .cbRes7B => Sys2Proof.Machine.execCbRes7B s
  | .cbRes7C => Sys2Proof.Machine.execCbRes7C s
  | .cbRes7D => Sys2Proof.Machine.execCbRes7D s
  | .cbRes7E => Sys2Proof.Machine.execCbRes7E s
  | .cbRes7H => Sys2Proof.Machine.execCbRes7H s
  | .cbRes7L => Sys2Proof.Machine.execCbRes7L s
  | .cbRes7IndHl => Sys2Proof.Machine.execCbRes7IndHl s
  | .cbRes7A => Sys2Proof.Machine.execCbRes7A s
  | .cbSet0B => Sys2Proof.Machine.execCbSet0B s
  | .cbSet0C => Sys2Proof.Machine.execCbSet0C s
  | .cbSet0D => Sys2Proof.Machine.execCbSet0D s
  | .cbSet0E => Sys2Proof.Machine.execCbSet0E s
  | .cbSet0H => Sys2Proof.Machine.execCbSet0H s
  | .cbSet0L => Sys2Proof.Machine.execCbSet0L s
  | .cbSet0IndHl => Sys2Proof.Machine.execCbSet0IndHl s
  | .cbSet0A => Sys2Proof.Machine.execCbSet0A s
  | .cbSet1B => Sys2Proof.Machine.execCbSet1B s
  | .cbSet1C => Sys2Proof.Machine.execCbSet1C s
  | .cbSet1D => Sys2Proof.Machine.execCbSet1D s
  | .cbSet1E => Sys2Proof.Machine.execCbSet1E s
  | .cbSet1H => Sys2Proof.Machine.execCbSet1H s
  | .cbSet1L => Sys2Proof.Machine.execCbSet1L s
  | .cbSet1IndHl => Sys2Proof.Machine.execCbSet1IndHl s
  | .cbSet1A => Sys2Proof.Machine.execCbSet1A s
  | .cbSet2B => Sys2Proof.Machine.execCbSet2B s
  | .cbSet2C => Sys2Proof.Machine.execCbSet2C s
  | .cbSet2D => Sys2Proof.Machine.execCbSet2D s
  | .cbSet2E => Sys2Proof.Machine.execCbSet2E s
  | .cbSet2H => Sys2Proof.Machine.execCbSet2H s
  | .cbSet2L => Sys2Proof.Machine.execCbSet2L s
  | .cbSet2IndHl => Sys2Proof.Machine.execCbSet2IndHl s
  | .cbSet2A => Sys2Proof.Machine.execCbSet2A s
  | .cbSet3B => Sys2Proof.Machine.execCbSet3B s
  | .cbSet3C => Sys2Proof.Machine.execCbSet3C s
  | .cbSet3D => Sys2Proof.Machine.execCbSet3D s
  | .cbSet3E => Sys2Proof.Machine.execCbSet3E s
  | .cbSet3H => Sys2Proof.Machine.execCbSet3H s
  | .cbSet3L => Sys2Proof.Machine.execCbSet3L s
  | .cbSet3IndHl => Sys2Proof.Machine.execCbSet3IndHl s
  | .cbSet3A => Sys2Proof.Machine.execCbSet3A s
  | .cbSet4B => Sys2Proof.Machine.execCbSet4B s
  | .cbSet4C => Sys2Proof.Machine.execCbSet4C s
  | .cbSet4D => Sys2Proof.Machine.execCbSet4D s
  | .cbSet4E => Sys2Proof.Machine.execCbSet4E s
  | .cbSet4H => Sys2Proof.Machine.execCbSet4H s
  | .cbSet4L => Sys2Proof.Machine.execCbSet4L s
  | .cbSet4IndHl => Sys2Proof.Machine.execCbSet4IndHl s
  | .cbSet4A => Sys2Proof.Machine.execCbSet4A s
  | .cbSet5B => Sys2Proof.Machine.execCbSet5B s
  | .cbSet5C => Sys2Proof.Machine.execCbSet5C s
  | .cbSet5D => Sys2Proof.Machine.execCbSet5D s
  | .cbSet5E => Sys2Proof.Machine.execCbSet5E s
  | .cbSet5H => Sys2Proof.Machine.execCbSet5H s
  | .cbSet5L => Sys2Proof.Machine.execCbSet5L s
  | .cbSet5IndHl => Sys2Proof.Machine.execCbSet5IndHl s
  | .cbSet5A => Sys2Proof.Machine.execCbSet5A s
  | .cbSet6B => Sys2Proof.Machine.execCbSet6B s
  | .cbSet6C => Sys2Proof.Machine.execCbSet6C s
  | .cbSet6D => Sys2Proof.Machine.execCbSet6D s
  | .cbSet6E => Sys2Proof.Machine.execCbSet6E s
  | .cbSet6H => Sys2Proof.Machine.execCbSet6H s
  | .cbSet6L => Sys2Proof.Machine.execCbSet6L s
  | .cbSet6IndHl => Sys2Proof.Machine.execCbSet6IndHl s
  | .cbSet6A => Sys2Proof.Machine.execCbSet6A s
  | .cbSet7B => Sys2Proof.Machine.execCbSet7B s
  | .cbSet7C => Sys2Proof.Machine.execCbSet7C s
  | .cbSet7D => Sys2Proof.Machine.execCbSet7D s
  | .cbSet7E => Sys2Proof.Machine.execCbSet7E s
  | .cbSet7H => Sys2Proof.Machine.execCbSet7H s
  | .cbSet7L => Sys2Proof.Machine.execCbSet7L s
  | .cbSet7IndHl => Sys2Proof.Machine.execCbSet7IndHl s
  | .cbSet7A => Sys2Proof.Machine.execCbSet7A s

end Sys2Proof.Machine
end

