-- ==== Sys2Proof/Machine/Descriptor.lean ====
section
/-! DEFINITION. The opcode descriptors (R103): mnemonic, length, cost in clock ticks, and the ordered list of micro-steps that
the engine runs, one a machine cycle (R128 to R130, R139). The step lists are the S1, S2, ... of the instruction rules; they
carry immediates in the latches W and Z, never in the instruction. -/

namespace Sys2Proof.Machine

/-- The diagnostic mnemonic of a row, as the spec writes it (R103, R107; D21). -/
def mnemonicOf : Instr → String
  | .nop => "NOP"
  | .ldBcD16 _ => "LD BC,d16"
  | .ldIndBcA => "LD (BC),A"
  | .incBc => "INC BC"
  | .incB => "INC B"
  | .decB => "DEC B"
  | .ldBD8 _ => "LD B,d8"
  | .rlca => "RLCA"
  | .ldIndA16Sp _ => "LD (a16),SP"
  | .addHlBc => "ADD HL,BC"
  | .ldAIndBc => "LD A,(BC)"
  | .decBc => "DEC BC"
  | .incC => "INC C"
  | .decC => "DEC C"
  | .ldCD8 _ => "LD C,d8"
  | .rrca => "RRCA"
  | .stop => "STOP"
  | .ldDeD16 _ => "LD DE,d16"
  | .ldIndDeA => "LD (DE),A"
  | .incDe => "INC DE"
  | .incD => "INC D"
  | .decD => "DEC D"
  | .ldDD8 _ => "LD D,d8"
  | .rla => "RLA"
  | .jrE8 _ => "JR e8"
  | .addHlDe => "ADD HL,DE"
  | .ldAIndDe => "LD A,(DE)"
  | .decDe => "DEC DE"
  | .incE => "INC E"
  | .decE => "DEC E"
  | .ldED8 _ => "LD E,d8"
  | .rra => "RRA"
  | .jrNzE8 _ => "JR NZ,e8"
  | .ldHlD16 _ => "LD HL,d16"
  | .ldIndHlIncA => "LD (HL+),A"
  | .incHl => "INC HL"
  | .incH => "INC H"
  | .decH => "DEC H"
  | .ldHD8 _ => "LD H,d8"
  | .daa => "DAA"
  | .jrZE8 _ => "JR Z,e8"
  | .addHlHl => "ADD HL,HL"
  | .ldAIndHlInc => "LD A,(HL+)"
  | .decHl => "DEC HL"
  | .incL => "INC L"
  | .decL => "DEC L"
  | .ldLD8 _ => "LD L,d8"
  | .cpl => "CPL"
  | .jrNcE8 _ => "JR NC,e8"
  | .ldSpD16 _ => "LD SP,d16"
  | .ldIndHlDecA => "LD (HL-),A"
  | .incSp => "INC SP"
  | .incIndHl => "INC (HL)"
  | .decIndHl => "DEC (HL)"
  | .ldIndHlD8 _ => "LD (HL),d8"
  | .scf => "SCF"
  | .jrCE8 _ => "JR C,e8"
  | .addHlSp => "ADD HL,SP"
  | .ldAIndHlDec => "LD A,(HL-)"
  | .decSp => "DEC SP"
  | .incA => "INC A"
  | .decA => "DEC A"
  | .ldAD8 _ => "LD A,d8"
  | .ccf => "CCF"
  | .ldBB => "LD B,B"
  | .ldBC => "LD B,C"
  | .ldBD => "LD B,D"
  | .ldBE => "LD B,E"
  | .ldBH => "LD B,H"
  | .ldBL => "LD B,L"
  | .ldBIndHl => "LD B,(HL)"
  | .ldBA => "LD B,A"
  | .ldCB => "LD C,B"
  | .ldCC => "LD C,C"
  | .ldCD => "LD C,D"
  | .ldCE => "LD C,E"
  | .ldCH => "LD C,H"
  | .ldCL => "LD C,L"
  | .ldCIndHl => "LD C,(HL)"
  | .ldCA => "LD C,A"
  | .ldDB => "LD D,B"
  | .ldDC => "LD D,C"
  | .ldDD => "LD D,D"
  | .ldDE => "LD D,E"
  | .ldDH => "LD D,H"
  | .ldDL => "LD D,L"
  | .ldDIndHl => "LD D,(HL)"
  | .ldDA => "LD D,A"
  | .ldEB => "LD E,B"
  | .ldEC => "LD E,C"
  | .ldED => "LD E,D"
  | .ldEE => "LD E,E"
  | .ldEH => "LD E,H"
  | .ldEL => "LD E,L"
  | .ldEIndHl => "LD E,(HL)"
  | .ldEA => "LD E,A"
  | .ldHB => "LD H,B"
  | .ldHC => "LD H,C"
  | .ldHD => "LD H,D"
  | .ldHE => "LD H,E"
  | .ldHH => "LD H,H"
  | .ldHL => "LD H,L"
  | .ldHIndHl => "LD H,(HL)"
  | .ldHA => "LD H,A"
  | .ldLB => "LD L,B"
  | .ldLC => "LD L,C"
  | .ldLD => "LD L,D"
  | .ldLE => "LD L,E"
  | .ldLH => "LD L,H"
  | .ldLL => "LD L,L"
  | .ldLIndHl => "LD L,(HL)"
  | .ldLA => "LD L,A"
  | .ldIndHlB => "LD (HL),B"
  | .ldIndHlC => "LD (HL),C"
  | .ldIndHlD => "LD (HL),D"
  | .ldIndHlE => "LD (HL),E"
  | .ldIndHlH => "LD (HL),H"
  | .ldIndHlL => "LD (HL),L"
  | .halt => "HALT"
  | .ldIndHlA => "LD (HL),A"
  | .ldAB => "LD A,B"
  | .ldAC => "LD A,C"
  | .ldAD => "LD A,D"
  | .ldAE => "LD A,E"
  | .ldAH => "LD A,H"
  | .ldAL => "LD A,L"
  | .ldAIndHl => "LD A,(HL)"
  | .ldAA => "LD A,A"
  | .addAB => "ADD A,B"
  | .addAC => "ADD A,C"
  | .addAD => "ADD A,D"
  | .addAE => "ADD A,E"
  | .addAH => "ADD A,H"
  | .addAL => "ADD A,L"
  | .addAIndHl => "ADD A,(HL)"
  | .addAA => "ADD A,A"
  | .adcAB => "ADC A,B"
  | .adcAC => "ADC A,C"
  | .adcAD => "ADC A,D"
  | .adcAE => "ADC A,E"
  | .adcAH => "ADC A,H"
  | .adcAL => "ADC A,L"
  | .adcAIndHl => "ADC A,(HL)"
  | .adcAA => "ADC A,A"
  | .subAB => "SUB A,B"
  | .subAC => "SUB A,C"
  | .subAD => "SUB A,D"
  | .subAE => "SUB A,E"
  | .subAH => "SUB A,H"
  | .subAL => "SUB A,L"
  | .subAIndHl => "SUB A,(HL)"
  | .subAA => "SUB A,A"
  | .sbcAB => "SBC A,B"
  | .sbcAC => "SBC A,C"
  | .sbcAD => "SBC A,D"
  | .sbcAE => "SBC A,E"
  | .sbcAH => "SBC A,H"
  | .sbcAL => "SBC A,L"
  | .sbcAIndHl => "SBC A,(HL)"
  | .sbcAA => "SBC A,A"
  | .andAB => "AND A,B"
  | .andAC => "AND A,C"
  | .andAD => "AND A,D"
  | .andAE => "AND A,E"
  | .andAH => "AND A,H"
  | .andAL => "AND A,L"
  | .andAIndHl => "AND A,(HL)"
  | .andAA => "AND A,A"
  | .xorAB => "XOR A,B"
  | .xorAC => "XOR A,C"
  | .xorAD => "XOR A,D"
  | .xorAE => "XOR A,E"
  | .xorAH => "XOR A,H"
  | .xorAL => "XOR A,L"
  | .xorAIndHl => "XOR A,(HL)"
  | .xorAA => "XOR A,A"
  | .orAB => "OR A,B"
  | .orAC => "OR A,C"
  | .orAD => "OR A,D"
  | .orAE => "OR A,E"
  | .orAH => "OR A,H"
  | .orAL => "OR A,L"
  | .orAIndHl => "OR A,(HL)"
  | .orAA => "OR A,A"
  | .cpAB => "CP A,B"
  | .cpAC => "CP A,C"
  | .cpAD => "CP A,D"
  | .cpAE => "CP A,E"
  | .cpAH => "CP A,H"
  | .cpAL => "CP A,L"
  | .cpAIndHl => "CP A,(HL)"
  | .cpAA => "CP A,A"
  | .retNz => "RET NZ"
  | .popBc => "POP BC"
  | .jpNzA16 _ => "JP NZ,a16"
  | .jpA16 _ => "JP a16"
  | .callNzA16 _ => "CALL NZ,a16"
  | .pushBc => "PUSH BC"
  | .addAD8 _ => "ADD A,d8"
  | .rst00 => "RST 00H"
  | .retZ => "RET Z"
  | .ret => "RET"
  | .jpZA16 _ => "JP Z,a16"
  | .prefixCb => "PREFIX CB"
  | .callZA16 _ => "CALL Z,a16"
  | .callA16 _ => "CALL a16"
  | .adcAD8 _ => "ADC A,d8"
  | .rst08 => "RST 08H"
  | .retNc => "RET NC"
  | .popDe => "POP DE"
  | .jpNcA16 _ => "JP NC,a16"
  | .illegalD3 => "ILLEGAL_D3"
  | .callNcA16 _ => "CALL NC,a16"
  | .pushDe => "PUSH DE"
  | .subAD8 _ => "SUB A,d8"
  | .rst10 => "RST 10H"
  | .retC => "RET C"
  | .reti => "RETI"
  | .jpCA16 _ => "JP C,a16"
  | .illegalDB => "ILLEGAL_DB"
  | .callCA16 _ => "CALL C,a16"
  | .illegalDD => "ILLEGAL_DD"
  | .sbcAD8 _ => "SBC A,d8"
  | .rst18 => "RST 18H"
  | .ldhIndA8A _ => "LDH (a8),A"
  | .popHl => "POP HL"
  | .ldhIndCA => "LDH (C),A"
  | .illegalE3 => "ILLEGAL_E3"
  | .illegalE4 => "ILLEGAL_E4"
  | .pushHl => "PUSH HL"
  | .andAD8 _ => "AND A,d8"
  | .rst20 => "RST 20H"
  | .addSpE8 _ => "ADD SP,e8"
  | .jpHl => "JP HL"
  | .ldIndA16A _ => "LD (a16),A"
  | .illegalEB => "ILLEGAL_EB"
  | .illegalEC => "ILLEGAL_EC"
  | .illegalED => "ILLEGAL_ED"
  | .xorAD8 _ => "XOR A,d8"
  | .rst28 => "RST 28H"
  | .ldhAIndA8 _ => "LDH A,(a8)"
  | .popAf => "POP AF"
  | .ldhAIndC => "LDH A,(C)"
  | .di => "DI"
  | .illegalF4 => "ILLEGAL_F4"
  | .pushAf => "PUSH AF"
  | .orAD8 _ => "OR A,d8"
  | .rst30 => "RST 30H"
  | .ldHlSpE8 _ => "LD HL,SP+e8"
  | .ldSpHl => "LD SP,HL"
  | .ldAIndA16 _ => "LD A,(a16)"
  | .ei => "EI"
  | .illegalFC => "ILLEGAL_FC"
  | .illegalFD => "ILLEGAL_FD"
  | .cpAD8 _ => "CP A,d8"
  | .rst38 => "RST 38H"
  | .cbRlcB => "RLC B"
  | .cbRlcC => "RLC C"
  | .cbRlcD => "RLC D"
  | .cbRlcE => "RLC E"
  | .cbRlcH => "RLC H"
  | .cbRlcL => "RLC L"
  | .cbRlcIndHl => "RLC (HL)"
  | .cbRlcA => "RLC A"
  | .cbRrcB => "RRC B"
  | .cbRrcC => "RRC C"
  | .cbRrcD => "RRC D"
  | .cbRrcE => "RRC E"
  | .cbRrcH => "RRC H"
  | .cbRrcL => "RRC L"
  | .cbRrcIndHl => "RRC (HL)"
  | .cbRrcA => "RRC A"
  | .cbRlB => "RL B"
  | .cbRlC => "RL C"
  | .cbRlD => "RL D"
  | .cbRlE => "RL E"
  | .cbRlH => "RL H"
  | .cbRlL => "RL L"
  | .cbRlIndHl => "RL (HL)"
  | .cbRlA => "RL A"
  | .cbRrB => "RR B"
  | .cbRrC => "RR C"
  | .cbRrD => "RR D"
  | .cbRrE => "RR E"
  | .cbRrH => "RR H"
  | .cbRrL => "RR L"
  | .cbRrIndHl => "RR (HL)"
  | .cbRrA => "RR A"
  | .cbSlaB => "SLA B"
  | .cbSlaC => "SLA C"
  | .cbSlaD => "SLA D"
  | .cbSlaE => "SLA E"
  | .cbSlaH => "SLA H"
  | .cbSlaL => "SLA L"
  | .cbSlaIndHl => "SLA (HL)"
  | .cbSlaA => "SLA A"
  | .cbSraB => "SRA B"
  | .cbSraC => "SRA C"
  | .cbSraD => "SRA D"
  | .cbSraE => "SRA E"
  | .cbSraH => "SRA H"
  | .cbSraL => "SRA L"
  | .cbSraIndHl => "SRA (HL)"
  | .cbSraA => "SRA A"
  | .cbSwapB => "SWAP B"
  | .cbSwapC => "SWAP C"
  | .cbSwapD => "SWAP D"
  | .cbSwapE => "SWAP E"
  | .cbSwapH => "SWAP H"
  | .cbSwapL => "SWAP L"
  | .cbSwapIndHl => "SWAP (HL)"
  | .cbSwapA => "SWAP A"
  | .cbSrlB => "SRL B"
  | .cbSrlC => "SRL C"
  | .cbSrlD => "SRL D"
  | .cbSrlE => "SRL E"
  | .cbSrlH => "SRL H"
  | .cbSrlL => "SRL L"
  | .cbSrlIndHl => "SRL (HL)"
  | .cbSrlA => "SRL A"
  | .cbBit0B => "BIT 0,B"
  | .cbBit0C => "BIT 0,C"
  | .cbBit0D => "BIT 0,D"
  | .cbBit0E => "BIT 0,E"
  | .cbBit0H => "BIT 0,H"
  | .cbBit0L => "BIT 0,L"
  | .cbBit0IndHl => "BIT 0,(HL)"
  | .cbBit0A => "BIT 0,A"
  | .cbBit1B => "BIT 1,B"
  | .cbBit1C => "BIT 1,C"
  | .cbBit1D => "BIT 1,D"
  | .cbBit1E => "BIT 1,E"
  | .cbBit1H => "BIT 1,H"
  | .cbBit1L => "BIT 1,L"
  | .cbBit1IndHl => "BIT 1,(HL)"
  | .cbBit1A => "BIT 1,A"
  | .cbBit2B => "BIT 2,B"
  | .cbBit2C => "BIT 2,C"
  | .cbBit2D => "BIT 2,D"
  | .cbBit2E => "BIT 2,E"
  | .cbBit2H => "BIT 2,H"
  | .cbBit2L => "BIT 2,L"
  | .cbBit2IndHl => "BIT 2,(HL)"
  | .cbBit2A => "BIT 2,A"
  | .cbBit3B => "BIT 3,B"
  | .cbBit3C => "BIT 3,C"
  | .cbBit3D => "BIT 3,D"
  | .cbBit3E => "BIT 3,E"
  | .cbBit3H => "BIT 3,H"
  | .cbBit3L => "BIT 3,L"
  | .cbBit3IndHl => "BIT 3,(HL)"
  | .cbBit3A => "BIT 3,A"
  | .cbBit4B => "BIT 4,B"
  | .cbBit4C => "BIT 4,C"
  | .cbBit4D => "BIT 4,D"
  | .cbBit4E => "BIT 4,E"
  | .cbBit4H => "BIT 4,H"
  | .cbBit4L => "BIT 4,L"
  | .cbBit4IndHl => "BIT 4,(HL)"
  | .cbBit4A => "BIT 4,A"
  | .cbBit5B => "BIT 5,B"
  | .cbBit5C => "BIT 5,C"
  | .cbBit5D => "BIT 5,D"
  | .cbBit5E => "BIT 5,E"
  | .cbBit5H => "BIT 5,H"
  | .cbBit5L => "BIT 5,L"
  | .cbBit5IndHl => "BIT 5,(HL)"
  | .cbBit5A => "BIT 5,A"
  | .cbBit6B => "BIT 6,B"
  | .cbBit6C => "BIT 6,C"
  | .cbBit6D => "BIT 6,D"
  | .cbBit6E => "BIT 6,E"
  | .cbBit6H => "BIT 6,H"
  | .cbBit6L => "BIT 6,L"
  | .cbBit6IndHl => "BIT 6,(HL)"
  | .cbBit6A => "BIT 6,A"
  | .cbBit7B => "BIT 7,B"
  | .cbBit7C => "BIT 7,C"
  | .cbBit7D => "BIT 7,D"
  | .cbBit7E => "BIT 7,E"
  | .cbBit7H => "BIT 7,H"
  | .cbBit7L => "BIT 7,L"
  | .cbBit7IndHl => "BIT 7,(HL)"
  | .cbBit7A => "BIT 7,A"
  | .cbRes0B => "RES 0,B"
  | .cbRes0C => "RES 0,C"
  | .cbRes0D => "RES 0,D"
  | .cbRes0E => "RES 0,E"
  | .cbRes0H => "RES 0,H"
  | .cbRes0L => "RES 0,L"
  | .cbRes0IndHl => "RES 0,(HL)"
  | .cbRes0A => "RES 0,A"
  | .cbRes1B => "RES 1,B"
  | .cbRes1C => "RES 1,C"
  | .cbRes1D => "RES 1,D"
  | .cbRes1E => "RES 1,E"
  | .cbRes1H => "RES 1,H"
  | .cbRes1L => "RES 1,L"
  | .cbRes1IndHl => "RES 1,(HL)"
  | .cbRes1A => "RES 1,A"
  | .cbRes2B => "RES 2,B"
  | .cbRes2C => "RES 2,C"
  | .cbRes2D => "RES 2,D"
  | .cbRes2E => "RES 2,E"
  | .cbRes2H => "RES 2,H"
  | .cbRes2L => "RES 2,L"
  | .cbRes2IndHl => "RES 2,(HL)"
  | .cbRes2A => "RES 2,A"
  | .cbRes3B => "RES 3,B"
  | .cbRes3C => "RES 3,C"
  | .cbRes3D => "RES 3,D"
  | .cbRes3E => "RES 3,E"
  | .cbRes3H => "RES 3,H"
  | .cbRes3L => "RES 3,L"
  | .cbRes3IndHl => "RES 3,(HL)"
  | .cbRes3A => "RES 3,A"
  | .cbRes4B => "RES 4,B"
  | .cbRes4C => "RES 4,C"
  | .cbRes4D => "RES 4,D"
  | .cbRes4E => "RES 4,E"
  | .cbRes4H => "RES 4,H"
  | .cbRes4L => "RES 4,L"
  | .cbRes4IndHl => "RES 4,(HL)"
  | .cbRes4A => "RES 4,A"
  | .cbRes5B => "RES 5,B"
  | .cbRes5C => "RES 5,C"
  | .cbRes5D => "RES 5,D"
  | .cbRes5E => "RES 5,E"
  | .cbRes5H => "RES 5,H"
  | .cbRes5L => "RES 5,L"
  | .cbRes5IndHl => "RES 5,(HL)"
  | .cbRes5A => "RES 5,A"
  | .cbRes6B => "RES 6,B"
  | .cbRes6C => "RES 6,C"
  | .cbRes6D => "RES 6,D"
  | .cbRes6E => "RES 6,E"
  | .cbRes6H => "RES 6,H"
  | .cbRes6L => "RES 6,L"
  | .cbRes6IndHl => "RES 6,(HL)"
  | .cbRes6A => "RES 6,A"
  | .cbRes7B => "RES 7,B"
  | .cbRes7C => "RES 7,C"
  | .cbRes7D => "RES 7,D"
  | .cbRes7E => "RES 7,E"
  | .cbRes7H => "RES 7,H"
  | .cbRes7L => "RES 7,L"
  | .cbRes7IndHl => "RES 7,(HL)"
  | .cbRes7A => "RES 7,A"
  | .cbSet0B => "SET 0,B"
  | .cbSet0C => "SET 0,C"
  | .cbSet0D => "SET 0,D"
  | .cbSet0E => "SET 0,E"
  | .cbSet0H => "SET 0,H"
  | .cbSet0L => "SET 0,L"
  | .cbSet0IndHl => "SET 0,(HL)"
  | .cbSet0A => "SET 0,A"
  | .cbSet1B => "SET 1,B"
  | .cbSet1C => "SET 1,C"
  | .cbSet1D => "SET 1,D"
  | .cbSet1E => "SET 1,E"
  | .cbSet1H => "SET 1,H"
  | .cbSet1L => "SET 1,L"
  | .cbSet1IndHl => "SET 1,(HL)"
  | .cbSet1A => "SET 1,A"
  | .cbSet2B => "SET 2,B"
  | .cbSet2C => "SET 2,C"
  | .cbSet2D => "SET 2,D"
  | .cbSet2E => "SET 2,E"
  | .cbSet2H => "SET 2,H"
  | .cbSet2L => "SET 2,L"
  | .cbSet2IndHl => "SET 2,(HL)"
  | .cbSet2A => "SET 2,A"
  | .cbSet3B => "SET 3,B"
  | .cbSet3C => "SET 3,C"
  | .cbSet3D => "SET 3,D"
  | .cbSet3E => "SET 3,E"
  | .cbSet3H => "SET 3,H"
  | .cbSet3L => "SET 3,L"
  | .cbSet3IndHl => "SET 3,(HL)"
  | .cbSet3A => "SET 3,A"
  | .cbSet4B => "SET 4,B"
  | .cbSet4C => "SET 4,C"
  | .cbSet4D => "SET 4,D"
  | .cbSet4E => "SET 4,E"
  | .cbSet4H => "SET 4,H"
  | .cbSet4L => "SET 4,L"
  | .cbSet4IndHl => "SET 4,(HL)"
  | .cbSet4A => "SET 4,A"
  | .cbSet5B => "SET 5,B"
  | .cbSet5C => "SET 5,C"
  | .cbSet5D => "SET 5,D"
  | .cbSet5E => "SET 5,E"
  | .cbSet5H => "SET 5,H"
  | .cbSet5L => "SET 5,L"
  | .cbSet5IndHl => "SET 5,(HL)"
  | .cbSet5A => "SET 5,A"
  | .cbSet6B => "SET 6,B"
  | .cbSet6C => "SET 6,C"
  | .cbSet6D => "SET 6,D"
  | .cbSet6E => "SET 6,E"
  | .cbSet6H => "SET 6,H"
  | .cbSet6L => "SET 6,L"
  | .cbSet6IndHl => "SET 6,(HL)"
  | .cbSet6A => "SET 6,A"
  | .cbSet7B => "SET 7,B"
  | .cbSet7C => "SET 7,C"
  | .cbSet7D => "SET 7,D"
  | .cbSet7E => "SET 7,E"
  | .cbSet7H => "SET 7,H"
  | .cbSet7L => "SET 7,L"
  | .cbSet7IndHl => "SET 7,(HL)"
  | .cbSet7A => "SET 7,A"

/-- What a micro-step answers: go on, end the instruction here (R129), or an engine fault (R330). -/
inductive StepResult where
  | go (s : State)
  | abort (s : State)
  | fault (f : Fault)

/-- A micro-step. -/
abbrev MicroStep := State → StepResult

/-- The single step of a one-machine-cycle instruction is its whole effect (R9, R125, R126). -/
def wholeEffect (meaning : State → Result) : MicroStep := fun s =>
  match meaning s with
  | .next t => .go t
  | .fault f => .fault f
  | .refused _ => .abort s

/-- `WZ = W :: Z` (R37). -/
def State.wz (s : State) : Word := joinBytes s.w s.z

/-- `Idle` (R139). -/
def stepIdle : MicroStep := fun s => .go s

/-- The state after `ReadZ` (R139). -/
def State.readZ (s : State) : State := { s with z := s.read8 s.pc, pc := s.pc + 1 }

/-- The state after `ReadW` (R139). -/
def State.readW (s : State) : State := { s with w := s.read8 s.pc, pc := s.pc + 1 }

/-- `ReadZ` (R139). -/
def stepReadZ : MicroStep := fun s => .go s.readZ

/-- `ReadW` (R139). -/
def stepReadW : MicroStep := fun s => .go s.readW

/-- Read the byte at HL into the latch Z: the first step of the read-modify-write forms (R215, R217, R254). -/
def stepReadHl : MicroStep := fun s => .go { s with z := s.read8 s.hl }

/-- `PopLo` into the latch Z (R190). -/
def State.popLo (s : State) : State := { s.popNext .pop1 with z := s.popValue .pop1 }

/-- `PopHi` into the latch W (R190). -/
def State.popHi (s : State) : State := { s.popNext .pop2 with w := s.popValue .pop2 }

/-- `PopLo` (R190). -/
def stepPopLo : MicroStep := fun s => .go s.popLo

/-- `PopHi` (R190). -/
def stepPopHi : MicroStep := fun s => .go s.popHi

/-- `PushHi` of a value of the state (R190). -/
def stepPushHi (v : State → Word) : MicroStep := fun s => .go (s.pushHi (v s))

/-- `PC <- WZ` (R281). -/
def stepJumpWZ : MicroStep := fun s => .go { s with pc := s.wz }

/-- `if not cond(cc) then Abort` (R129, R280). -/
def abortUnless (cc : Cond) (s : State) : StepResult := if s.cond cc then .go s else .abort s

/-- The ordered list of micro-steps of an operation: the Steps of its rule (R9, R160 to R311). -/
def formSteps : Form → List MicroStep
  | .nop => [wholeEffect nop]
  | .stop => [wholeEffect stop]
  | .halt => [wholeEffect halt]
  | .di => [wholeEffect di]
  | .ei => [wholeEffect ei]
  | .cbTable => []
  | .unassigned op => [wholeEffect (unassigned op)]
  | .ldRegReg r r' => [wholeEffect (ldRegReg r r')]
  | .ldRegImm r _ => [fun s => .go (({ s with pc := s.pc + 1 } : State).setReg r (s.read8 s.pc))]
  | .ldRegHl r => [fun s => .go (s.setReg r (s.read8 s.hl))]
  | .ldHlReg r => [fun s => .go (s.write8 s.hl (s.reg r))]
  | .ldHlImm _ => [stepReadZ, fun s => .go (s.write8 s.hl s.z)]
  | .ldAInd p => [fun s => .go ((s.setReg .a (s.read8 (s.indAddr p))).indAfter p)]
  | .ldIndA p => [fun s => .go ((s.write8 (s.indAddr p) s.a).indAfter p)]
  | .ldAAbs _ => [stepReadZ, stepReadW, fun s => .go (s.setReg .a (s.read8 s.wz))]
  | .ldAbsA _ => [stepReadZ, stepReadW, fun s => .go (s.write8 s.wz s.a)]
  | .ldhAImm _ => [stepReadZ, fun s => .go (s.setReg .a (s.read8 (highPage s.z)))]
  | .ldhImmA _ => [stepReadZ, fun s => .go (s.write8 (highPage s.z) s.a)]
  | .ldhAC => [fun s => .go (s.setReg .a (s.read8 (highPage s.c)))]
  | .ldhCA => [fun s => .go (s.write8 (highPage s.c) s.a)]
  | .ldPairImm rr _ => [stepReadZ, fun s => .go ((s.readW.quirk .ld16 s.readW.wz).setPair rr s.readW.wz)]
  | .ldAbsSp _ => [stepReadZ, stepReadW, fun s => .go (s.write8 s.wz (loByte s.sp)),
      fun s => .go (s.write8 (s.wz + 1) (hiByte s.sp))]
  | .ldSpHl => [fun s => .go { s with sp := s.hl }]
  | .ldHlSpE _ => [stepReadZ, fun s => .go ((s.setFlags (addSpe s.sp s.z).2).setHl (addSpe s.sp s.z).1)]
  | .push rr => [stepIdle, stepPushHi fun s => s.stackPair rr, fun s => .go (s.pushLo (s.stackPair rr))]
  | .pop rr => [stepPopLo, fun s => .go (s.popHi.setStackPair rr s.popHi.wz)]
  | .aluReg op r => [wholeEffect (aluReg op r)]
  | .aluHl op => [fun s => .go (s.applyAlu op (s.read8 s.hl))]
  | .aluImm op _ => [fun s => .go (({ s with pc := s.pc + 1 } : State).applyAlu op (s.read8 s.pc))]
  | .incReg r => [wholeEffect (incReg r)]
  | .incHl => [stepReadHl, fun s => .go ((s.write8 s.hl (inc8 s.z s.flagC).1).setFlags (inc8 s.z s.flagC).2)]
  | .decReg r => [wholeEffect (decReg r)]
  | .decHl => [stepReadHl, fun s => .go ((s.write8 s.hl (dec8 s.z s.flagC).1).setFlags (dec8 s.z s.flagC).2)]
  | .daa => [wholeEffect daa]
  | .cpl => [wholeEffect cpl]
  | .scf => [wholeEffect scf]
  | .ccf => [wholeEffect ccf]
  | .addHlPair rr => [fun s => .go ((s.setFlags (addHl16 s.hl (s.pair rr) s.flagZ).2).setHl (addHl16 s.hl (s.pair rr) s.flagZ).1)]
  | .incPair rr => [fun s => .go ((s.quirk .incDec (s.pair rr)).setPair rr (s.pair rr + 1))]
  | .decPair rr => [fun s => .go ((s.quirk .incDec (s.pair rr)).setPair rr (s.pair rr - 1))]
  | .addSpE _ => [stepReadZ, stepIdle, fun s => .go { s.setFlags (addSpe s.sp s.z).2 with sp := (addSpe s.sp s.z).1 }]
  | .accRot op => [wholeEffect (accRot op)]
  | .rotReg op r => [wholeEffect (rotReg op r)]
  | .rotHl op => [stepReadHl, fun s => .go ((s.write8 s.hl (rot8 op s.z s.flagC).1).setFlags (rot8 op s.z s.flagC).2)]
  | .bitReg b r => [wholeEffect (bitReg b r)]
  | .bitHl b => [fun s => .go (({ s with z := s.read8 s.hl } : State).setFlags (bitFlags b (s.read8 s.hl) s.flagC))]
  | .resReg b r => [wholeEffect (resReg b r)]
  | .resHl b => [stepReadHl, fun s => .go (s.write8 s.hl (resBit b s.z))]
  | .setReg b r => [wholeEffect (setReg b r)]
  | .setHl b => [stepReadHl, fun s => .go (s.write8 s.hl (setBit b s.z))]
  | .jp _ => [stepReadZ, stepReadW, stepJumpWZ]
  | .jpCond cc _ => [stepReadZ, fun s => abortUnless cc s.readW, stepJumpWZ]
  | .jpHl => [wholeEffect jpHl]
  | .jr _ => [stepReadZ, fun s => .go { s with pc := s.pc + sext16 s.z }]
  | .jrCond cc _ => [fun s => abortUnless cc s.readZ, fun s => .go { s with pc := s.pc + sext16 s.z }]
  | .call _ => [stepReadZ, stepReadW, stepIdle, stepPushHi State.pc, fun s => .go { s.pushLo s.pc with pc := s.wz }]
  | .callCond cc _ => [stepReadZ, fun s => abortUnless cc s.readW, stepIdle, stepPushHi State.pc,
      fun s => .go { s.pushLo s.pc with pc := s.wz }]
  | .ret => [stepPopLo, stepPopHi, stepJumpWZ]
  | .retCond cc => [abortUnless cc, stepPopLo, stepPopHi, stepJumpWZ]
  | .reti => [stepPopLo, stepPopHi, fun s => .go (s.returnFromInterrupt s.wz)]
  | .rst t => [stepIdle, stepPushHi State.pc, fun s => .go { s.pushLo s.pc with pc := rstTarget t }]

/-- The diagnostic length: the format's, but 2 for STOP, whose nominal second byte the engine does not read (R103, R307, C6). -/
def formLength (f : Form) : Nat := if f = .stop then 2 else 1 + f.format.bytesAfterFirst

/-- The cost in clock ticks, on the taken path of a conditional (R98 to R102, R401). -/
def formCycles : Form → Nat
  | .nop | .stop | .halt | .di | .ei | .cbTable | .unassigned _ | .ldRegReg _ _ | .aluReg _ _ | .incReg _ | .decReg _
  | .daa | .cpl | .scf | .ccf | .accRot _ | .jpHl => 4
  | .ldRegImm _ _ | .ldRegHl _ | .ldHlReg _ | .ldAInd _ | .ldIndA _ | .ldhAC | .ldhCA | .ldSpHl | .aluHl _ | .aluImm _ _
  | .addHlPair _ | .incPair _ | .decPair _ | .rotReg _ _ | .bitReg _ _ | .resReg _ _ | .setReg _ _ => 8
  | .ldHlImm _ | .ldhAImm _ | .ldhImmA _ | .ldPairImm _ _ | .ldHlSpE _ | .pop _ | .incHl | .decHl | .bitHl _ | .jr _
  | .jrCond _ _ => 12
  | .ldAAbs _ | .ldAbsA _ | .push _ | .addSpE _ | .rotHl _ | .resHl _ | .setHl _ | .jp _ | .jpCond _ _ | .ret | .reti
  | .rst _ => 16
  | .ldAbsSp _ | .retCond _ => 20
  | .call _ | .callCond _ _ => 24

/-- The cost in clock ticks of a conditional that is not taken (R98, R101, R401). -/
def formCyclesNotTaken : Form → Option Nat
  | .jrCond _ _ | .retCond _ => some 8
  | .jpCond _ _ | .callCond _ _ => some 12
  | .nop | .stop | .halt | .di | .ei | .cbTable | .unassigned _ | .ldRegReg _ _ | .ldRegImm _ _ | .ldRegHl _
  | .ldHlReg _ | .ldHlImm _ | .ldAInd _ | .ldIndA _ | .ldAAbs _ | .ldAbsA _ | .ldhAImm _ | .ldhImmA _ | .ldhAC
  | .ldhCA | .ldPairImm _ _ | .ldAbsSp _ | .ldSpHl | .ldHlSpE _ | .push _ | .pop _ | .aluReg _ _ | .aluHl _
  | .aluImm _ _ | .incReg _ | .incHl | .decReg _ | .decHl | .daa | .cpl | .scf | .ccf | .addHlPair _ | .incPair _
  | .decPair _ | .addSpE _ | .accRot _ | .rotReg _ _ | .rotHl _ | .bitReg _ _ | .bitHl _ | .resReg _ _ | .resHl _
  | .setReg _ _ | .setHl _ | .jp _ | .jpHl | .jr _ | .call _ | .ret | .reti | .rst _ => none

/-- A table entry (R103). -/
structure Descriptor where
  op : OpRef
  mnemonic : String
  length : Nat
  cycles : Nat
  cyclesNotTaken : Option Nat
  steps : List MicroStep

/-- The row a descriptor reference selects; the operand bytes play no part in it (R45, R106). -/
def OpRef.row (r : OpRef) : Instr := if r.extended then extInstr r.op else baseInstr r.op 0 0

/-- The two descriptor tables, BASE and EXT (R103, R125, R126). They cannot change (R45). -/
def OpRef.descriptor (r : OpRef) : Descriptor where
  op := r
  mnemonic := mnemonicOf r.row
  length := formLength r.row.form
  cycles := formCycles r.row.form
  cyclesNotTaken := formCyclesNotTaken r.row.form
  steps := formSteps r.row.form

end Sys2Proof.Machine
end

