-- ==== Sys2Proof/Machine/Fetch.lean ====
section
/-! DEFINITION. Fetching an instruction's bytes at PC, one a machine cycle, with the halt bug's one fetch that does not advance
PC (R27, R106, R125, R137). -/

namespace Sys2Proof.Machine

/-- After the opcode byte has been read: PC advances, but for the one fetch under the halt-bug marker, which clears the
marker instead (R36, R125). -/
def State.afterOpcode (s : State) : State :=
  if s.haltBug then { s with haltBug := false } else { s with pc := s.pc + 1 }

/-- After a later byte has been read (R27). -/
def State.afterOperand (s : State) : State := { s with pc := s.pc + 1 }

/-- The next `k` bytes of the instruction stream, each read in a machine cycle of its own (R66). -/
def operandBytes : Nat → State → List Byte
  | 0, _ => []
  | k + 1, s => s.nextCycle.read8 s.pc :: operandBytes k s.nextCycle.afterOperand

/-- The state after those `k` bytes have been read. -/
def afterOperands : Nat → State → State
  | 0, s => s
  | k + 1, s => afterOperands k s.nextCycle.afterOperand

/-- The byte the next opcode fetch reads (R125). -/
def State.opcode (s : State) : Byte := s.nextCycle.read8 s.pc

/-- The bytes of the instruction at PC: the opcode and as many more as it calls for (R106). -/
def State.instrBytes (s : State) : List Byte :=
  s.opcode :: operandBytes (bytesAfter s.opcode) s.nextCycle.afterOpcode

/-- The state when the last byte of the instruction has been read: PC addresses the next instruction (R27). -/
def State.afterFetch (s : State) : State := afterOperands (bytesAfter s.opcode) s.nextCycle.afterOpcode

/-- Store bytes at increasing addresses. -/
def State.putBytes (s : State) (addr : Word) : List Byte → State
  | [] => s
  | b :: rest => (s.write8 addr b).putBytes (addr + 1) rest

/-- Withdraw the requests that would be dispatched at the next boundary. -/
def State.withdrawDeliverable (s : State) : State :=
  if s.deliverable then { s with ifr := s.ifr &&& ~~~ s.ie } else s

/-- No event of another collaborator is due at the next boundary. -/
def State.quietNext (s : State) : State :=
  match s.inputs with
  | [] => s
  | later => { s with inputs := [] :: later }

end Sys2Proof.Machine
end

