-- ==== Sys2Proof/Machine/Engine.lean ====
section
/-! DEFINITION. The execution engine as the spec gives it: one machine cycle (R121 to R131) and one clock tick (R120). It runs
the micro-step lists of the descriptors, one step a machine cycle, and the five phases of the dispatch. -/

namespace Sys2Proof.Machine

/-- States in which the interrupt check is made; also the instruction boundaries (R122, R133). -/
def EngineState.boundary : EngineState → Bool
  | .fetch | .halted | .stopped => true
  | .fetchExtendedPrefix | .workPending | .dispatchIf | .dispatchIe | .dispatchPush1 | .dispatchPush2 | .dispatchJump => false

/-- The engine is at an instruction boundary (R133). -/
def State.atBoundary (s : State) : Bool := EngineState.boundary s.engine

/-- Run the single step of a one-cycle instruction and finish it (R125, R126, R131). -/
def runSingleStep (steps : List MicroStep) (s : State) : Result :=
  match steps with
  | [] => .fault (.malformedDescriptor s.cur)
  | m :: _ =>
    match m s with
    | .go t => .next t.instructionFinished
    | .abort t => .next t.instructionFinished
    | .fault f => .fault f

/-- The Fetch cycle (R125). -/
def fetchCycle (s : State) : Result :=
  let op := s.read8 s.pc
  let s1 := s.afterOpcode
  if op = Config.cbByte then exec .prefixCb s1
  else
    let ref : OpRef := { extended := false, op := op }
    let s2 := { s1 with cur := ref }
    if (OpRef.descriptor ref).cycles = 4 then runSingleStep (OpRef.descriptor ref).steps s2
    else .next { s2 with stepIdx := 0, engine := .workPending }

/-- The FetchExtendedPrefix cycle (R126). The halt-bug marker is not consulted. -/
def extCycle (s : State) : Result :=
  let ref : OpRef := { extended := true, op := s.read8 s.pc }
  let s1 := { s with pc := s.pc + 1, cur := ref }
  if (OpRef.descriptor ref).cycles = 8 then
    match runSingleStep (OpRef.descriptor ref).steps s1 with
    | .next t => .next { t with engine := .fetch }
    | .fault f => .fault f
    | .refused r => .refused r
  else .next { s1 with stepIdx := 0, engine := .workPending }

/-- The WorkPending cycle (R128). -/
def workCycle (s : State) : Result :=
  let steps := (OpRef.descriptor s.cur).steps
  match steps[s.stepIdx]? with
  | none => .fault (.malformedDescriptor s.cur)
  | some m =>
    match m s with
    | .fault f => .fault f
    | .abort t => .next { ({ t with stepIdx := s.stepIdx + 1 } : State).instructionFinished with engine := .fetch }
    | .go t =>
      let t1 := { t with stepIdx := s.stepIdx + 1 }
      if s.stepIdx + 1 = steps.length then .next { t1.instructionFinished with engine := .fetch } else .next t1

/-- The interrupt check: the cycle in which it succeeds is the cycle of phase Dispatch_IF (R121 (a), R122). -/
def State.interruptCheck (s : State) : State :=
  if s.atBoundary && s.deliverable then { s with engine := .dispatchIf } else s

/-- The action of the engine's state in one machine cycle (R121, R132). -/
def stateAction (s : State) : Result :=
  match s.engine with
  | .dispatchIf => .next s.phaseIf
  | .dispatchIe => .next s.phaseIe
  | .dispatchPush1 => .next s.phasePush1
  | .dispatchPush2 => .next s.phasePush2
  | .dispatchJump => .next s.phaseJump
  | .halted => if s.wakePending then fetchCycle { s with engine := .fetch } else .next s
  | .stopped => .next s
  | .fetch => fetchCycle s
  | .fetchExtendedPrefix => extCycle s
  | .workPending => workCycle s

/-- One machine cycle: the events that have arrived are visible, then the interrupt check, then the state's action (R121,
R122, R344). -/
def machineCycle (s : State) : Result := stateAction s.arrive.interruptCheck

/-- `advance()`: one clock tick; every fourth does the work (R120, R134). -/
def advance (s : State) : Result :=
  let s1 := { s with cycleCount := s.cycleCount + 1 }
  if s.tickDiv = 3 then machineCycle { s1 with tickDiv := 0 } else .next { s1 with tickDiv := s.tickDiv + 1 }

/-- `k` calls of `advance()`, as the driver makes them (R120, R135). -/
def advances : Nat → State → Result
  | 0, s => .next s
  | k + 1, s =>
    match advance s with
    | .next t => advances k t
    | .fault f => .fault f
    | .refused r => .refused r

/-- Machine cycles, with their ticks counted, up to the next instruction boundary, `k` at most (R133). -/
def runToBoundary : Nat → State → Result
  | 0, s => .next s
  | k + 1, s =>
    match machineCycle s.nextCycle with
    | .next t => if t.atBoundary then .next t else runToBoundary k t
    | .fault f => .fault f
    | .refused r => .refused r

end Sys2Proof.Machine
end

