-- ==== Sys2Proof/Machine/Instruction.lean ====
section
/-! DEFINITION. Running at instruction granularity, as R10 and R133 allow: a whole instruction, a whole dispatch, or one idle
machine cycle. -/

namespace Sys2Proof.Machine

/-- What follows an instruction's own effect: `InstructionFinished()`, unless the engine faulted (R131). -/
def finish : Result → Result
  | .next t => .next t.instructionFinished
  | .fault f => .fault f
  | .refused r => .refused r

/-- Fetch, decode and run the instruction at PC (R125, R131). A byte without a table entry would be the engine's fault of R127;
the tables have no such byte. -/
def runInstruction (s : State) : Result :=
  match decode s.instrBytes with
  | .ok (i, _) => finish (exec i s.afterFetch)
  | .error _ => .fault (.unknownOpcode s.opcode)

/-- From one instruction boundary to the next, the events due now having arrived: the interrupt check first, then what the
engine's state calls for (R121, R344, R350, R359 to R361). -/
def boundaryStep (s : State) : Result :=
  if s.deliverable then .next s.takeInterrupt
  else
    match s.engine with
    | .halted => if s.wakePending then runInstruction { s with engine := .fetch } else .next s.nextCycle
    | .stopped => .next s.nextCycle
    | .fetch | .fetchExtendedPrefix | .workPending | .dispatchIf | .dispatchIe | .dispatchPush1 | .dispatchPush2
    | .dispatchJump => runInstruction s

/-- One step: from an instruction boundary to the next one; inside an instruction or a dispatch, where only the engine's
machine cycles lead, one machine cycle (log 1). -/
def stepFrom (s : State) : Result :=
  if s.atBoundary then boundaryStep s.arrive else machineCycle s.nextCycle

end Sys2Proof.Machine
end

