-- ==== Sys2Proof/Machine/Step.lean ====
section
/-! DEFINITION. The step of the machine, and where the host puts an instruction for the next step to run. -/

namespace Sys2Proof.Machine

/-- One step of the machine (R10, R133; log 1). -/
def step (s : State) : Host.Outcome State Fault Refusal := stepFrom s

/-- The state with an instruction word of the opcode table stored at PC, where the next step fetches it: the engine is at a
Fetch boundary with no halt-bug marker, and no interrupt and no event of another collaborator comes before it (log 13). -/
def State.withFetchWord (s : State) (nbits w : Nat) : State :=
  (({ s with engine := .fetch, haltBug := false } : State).quietNext.withdrawDeliverable).putBytes s.pc
    (tableWordBytes nbits w)

end Sys2Proof.Machine
end

