-- ==== Sys2Proof/Machine/Run.lean ====
section
/-! DEFINITION. The end of a run. The spec defines none and asks a model for its own (R135, R391; log 15): a run ends at an
instruction boundary at which PC is a chosen address, or in a state the engine can no longer leave. A fault is no end. -/

namespace Sys2Proof.Machine

/-- No event of another collaborator is still to come. -/
def State.noEvents (s : State) : Bool := s.inputs.all List.isEmpty

/-- A stable end (R391): the engine is Halted or Stopped, and no exit is possible without an input that is not listed. Halted is
left by a dispatch or by the wake (R359, R361), Stopped by a dispatch alone (R360), which no event brings about while IME
is 0. -/
def State.stableEnd (s : State) : Bool :=
  match s.engine with
  | .halted => !s.deliverable && !s.wakePending && s.noEvents
  | .stopped => !s.ime || s.pe == 0 && s.noEvents
  | .fetch | .fetchExtendedPrefix | .workPending | .dispatchIf | .dispatchIe | .dispatchPush1 | .dispatchPush2
  | .dispatchJump => false

/-- How a run of bounded length comes out. -/
inductive RunEnd where
  /-- PC is the chosen address at an instruction boundary (R135). -/
  | reached (s : State)
  /-- A stable end (R391). -/
  | stable (s : State)
  /-- An engine fault, which is never an end of run (R135, U2). -/
  | fault (f : Fault)
  /-- The model gives no outcome. -/
  | refused (r : Refusal)
  /-- The bound is used up and the run could go on. -/
  | unfinished (s : State)
  deriving DecidableEq, Repr

/-- Some number of steps, the first outcome that is no next state ending them. -/
def steps : Nat → State → Result
  | 0, s => .next s
  | k + 1, s =>
    match step s with
    | .next t => steps k t
    | .fault f => .fault f
    | .refused r => .refused r

/-- A run from a state to its end, in at most so many steps (log 15). The end is looked for before each step, so a run that
starts at its end takes none. -/
def run (stop : Word) (fuel : Nat) (s : State) : RunEnd :=
  if s.atBoundary && s.pc == stop then .reached s
  else if s.stableEnd then .stable s
  else
    match fuel with
    | 0 => .unfinished s
    | fuel + 1 =>
      match step s with
      | .next t => run stop fuel t
      | .fault f => .fault f
      | .refused r => .refused r

end Sys2Proof.Machine
end

