-- ==== Sys2Proof/Safety.lean ====
section
/-! DEFINITION. What the claims are stated in: a sound state, the parts of a state that are compared, a read of one byte at a
given time, and, for every operation, what it may write and which addresses it stores to. -/

namespace Sys2Proof.Machine

/-- The engine is in a phase of the interrupt dispatch (R34). -/
def EngineState.dispatching : EngineState → Bool
  | .dispatchIf | .dispatchIe | .dispatchPush1 | .dispatchPush2 | .dispatchJump => true
  | .fetch | .fetchExtendedPrefix | .workPending | .halted | .stopped => false

/-- What holds of every state that a run from reset can reach. -/
structure State.Inv (s : State) : Prop where
  /-- Memory is in its canonical form (log 3). -/
  mem_wf : s.mem.wf = true
  /-- F's bits 3 to 0 are zero (R21). -/
  f_low : s.f.extractLsb' 0 4 = 0
  /-- An enable is scheduled only while IME is 0 (R337, R340). -/
  sched_ime : s.imeSched ≠ .none → s.ime = false
  /-- No dispatch runs while an enable is scheduled (R309 (g), R346). -/
  dispatch_sched : EngineState.dispatching s.engine = true → s.imeSched = .none
  /-- In WorkPending the step index is inside the step list (R136). -/
  work_index : s.engine = .workPending → s.stepIdx < (OpRef.descriptor s.cur).steps.length
  /-- In WorkPending the current row takes more machine cycles than its opcode fetch (R125, R126). -/
  work_row : s.engine = .workPending → (OpRef.descriptor s.cur).cycles > (if s.cur.extended then 8 else 4)

/-- The event is a request, not a collaborator's write. -/
def Input.isRequest : Input → Bool
  | .request _ => true
  | .write _ _ => false

/-- The whole of R78's reference platform: its answers, and no collaborator that writes memory (log 21). -/
def State.onReferencePlatform (s : State) : Prop :=
  s.platform = .reference ∧ ∀ now ∈ s.inputs, ∀ x ∈ now, x.isRequest = true

/-- The state without the latches that are dead at an instruction boundary, and without the events still to come (R133). -/
def State.atRest (s : State) : State :=
  { s with cur := { extended := false, op := 0 }, stepIdx := 0, w := 0, z := 0, irqIdx := 0, inputs := [] }

/-- Two outcomes agree on everything that is alive at an instruction boundary. -/
def Agree : Result → Result → Prop
  | .next s, .next t => s.atRest = t.atRest
  | .fault f, .fault g => f = g
  | .refused r, .refused q => r = q
  | _, _ => False

/-! ### Reading a byte, and the code at an address -/

/-- What a read of an address made at clock tick `n` answers (R60). Only a read of IE depends on the time, on a general platform
(log 6). -/
def State.readAt (s : State) (n : Nat) (a : Word) : Byte := ({ s with cycleCount := n } : State).read8 a

/-- Bytes lie at increasing addresses, each as a read answers it in a machine cycle of its own, the first at tick `n`. -/
def State.holdsAt (s : State) (n : Nat) (a : Word) : List Byte → Prop
  | [] => True
  | b :: rest => s.readAt n a = b ∧ s.holdsAt (n + 4) (a + 1) rest

/-- The two addresses at which the bus shows a controller register (R356). -/
def isController (a : Word) : Bool := a == Config.ieAddr || a == Config.ifAddr

/-- A quirk call made on this platform, at tick `n`, with this address runs the corruption routine (R394). -/
abbrev armed (p : Platform) (n : Nat) (a : Word) : Prop :=
  inOam a = true ∧ p.displayEnabled n = true ∧ Config.pipelineMode n = Config.spriteScanMode

/-! ### What an operation may write -/

/-- A conditional operation whose condition is false ends early (R129); every other operation runs to its end. -/
def goesThrough (f : Form) (s : State) : Bool :=
  match f with
  | .jpCond cc _ | .jrCond cc _ | .callCond cc _ | .retCond cc => s.cond cc
  | .nop | .stop | .halt | .di | .ei | .cbTable | .unassigned _ | .ldRegReg _ _ | .ldRegImm _ _ | .ldRegHl _
  | .ldHlReg _ | .ldHlImm _ | .ldAInd _ | .ldIndA _ | .ldAAbs _ | .ldAbsA _ | .ldhAImm _ | .ldhImmA _ | .ldhAC
  | .ldhCA | .ldPairImm _ _ | .ldAbsSp _ | .ldSpHl | .ldHlSpE _ | .push _ | .pop _ | .aluReg _ _ | .aluHl _
  | .aluImm _ _ | .incReg _ | .incHl | .decReg _ | .decHl | .daa | .cpl | .scf | .ccf | .addHlPair _ | .incPair _
  | .decPair _ | .addSpE _ | .accRot _ | .rotReg _ _ | .rotHl _ | .bitReg _ _ | .bitHl _ | .resReg _ _ | .resHl _
  | .setReg _ _ | .setHl _ | .jp _ | .jpHl | .jr _ | .call _ | .ret | .reti | .rst _ => true

/-- The addresses an operation stores a byte to, in the order of the stores, from the state in which its own effect begins
(R163, R164, R167, R168, R170, R172, R174 to R176, R190, R192, R215, R217, R254, R286, R291). -/
def storedAddrs (f : Form) (s : State) : List Word :=
  match f with
  | .ldHlReg _ | .ldHlImm _ | .incHl | .decHl | .rotHl _ | .resHl _ | .setHl _ => [s.hl]
  | .ldIndA p => [s.indAddr p]
  | .ldAbsA a => [a]
  | .ldhImmA a => [highPage a]
  | .ldhCA => [highPage s.c]
  | .ldAbsSp a => [a, a + 1]
  | .push _ | .call _ | .rst _ => [s.sp - 1, s.sp - 2]
  | .callCond cc _ => if s.cond cc then [s.sp - 1, s.sp - 2] else []
  | .nop | .stop | .halt | .di | .ei | .cbTable | .unassigned _ | .ldRegReg _ _ | .ldRegImm _ _ | .ldRegHl _
  | .ldAInd _ | .ldAAbs _ | .ldhAImm _ | .ldhAC | .ldPairImm _ _ | .ldSpHl | .ldHlSpE _ | .pop _ | .aluReg _ _
  | .aluHl _ | .aluImm _ _ | .incReg _ | .decReg _ | .daa | .cpl | .scf | .ccf | .addHlPair _ | .incPair _
  | .decPair _ | .addSpE _ | .accRot _ | .rotReg _ _ | .bitReg _ _ | .bitHl _ | .resReg _ _ | .setReg _ _ | .jp _
  | .jpCond _ _ | .jpHl | .jr _ | .jrCond _ _ | .ret | .retCond _ | .reti => []

/-- The quirk calls an operation makes: the tick of each and its address (R395). -/
def quirkCalls (f : Form) (s : State) : List (Nat × Word) :=
  let n := s.cycleCount
  match f with
  | .ldPairImm _ v => [(n, v)]
  | .incPair rr | .decPair rr => [(n + 4, s.pair rr)]
  | .push _ | .call _ | .rst _ => [(n + 8, s.sp), (n + 12, s.sp - 1)]
  | .callCond cc _ => if s.cond cc then [(n + 8, s.sp), (n + 12, s.sp - 1)] else []
  | .pop _ | .ret | .reti => [(n + 4, s.sp), (n + 8, s.sp + 1)]
  | .retCond cc => if s.cond cc then [(n + 8, s.sp), (n + 12, s.sp + 1)] else []
  | .nop | .stop | .halt | .di | .ei | .cbTable | .unassigned _ | .ldRegReg _ _ | .ldRegImm _ _ | .ldRegHl _
  | .ldHlReg _ | .ldHlImm _ | .ldAInd _ | .ldIndA _ | .ldAAbs _ | .ldAbsA _ | .ldhAImm _ | .ldhImmA _ | .ldhAC
  | .ldhCA | .ldAbsSp _ | .ldSpHl | .ldHlSpE _ | .aluReg _ _ | .aluHl _ | .aluImm _ _ | .incReg _ | .incHl | .decReg _
  | .decHl | .daa | .cpl | .scf | .ccf | .addHlPair _ | .addSpE _ | .accRot _ | .rotReg _ _ | .rotHl _ | .bitReg _ _
  | .bitHl _ | .resReg _ _ | .resHl _ | .setReg _ _ | .setHl _ | .jp _ | .jpCond _ _ | .jpHl | .jr _ | .jrCond _ _ => []

/-- The registers of a pair of table `rr` (R95). -/
def pairRegs : Reg16 → List Reg8
  | .bc => [.b, .c] | .de => [.d, .e] | .hl => [.h, .l] | .sp => []

/-- The registers of a pair of table `rr2` but F (R95). -/
def stackPairRegs : StackReg → List Reg8
  | .bc => [.b, .c] | .de => [.d, .e] | .hl => [.h, .l] | .af => [.a]

/-- The registers an indirect pointer's use updates (R95). -/
def indRegs : IndPtr → List Reg8
  | .bc | .de => [] | .hlInc | .hlDec => [.h, .l]

/-- The general registers, F apart, that an operation writes (the register table under R23). -/
def writtenRegs : Form → List Reg8
  | .ldRegReg r _ | .ldRegImm r _ | .ldRegHl r | .incReg r | .decReg r | .rotReg _ r | .resReg _ r | .setReg _ r => [r]
  | .ldAInd p => .a :: indRegs p
  | .ldIndA p => indRegs p
  | .ldAAbs _ | .ldhAImm _ | .ldhAC | .daa | .cpl | .accRot _ => [.a]
  | .ldPairImm rr _ | .incPair rr | .decPair rr => pairRegs rr
  | .pop rr => stackPairRegs rr
  | .ldHlSpE _ | .addHlPair _ => [.h, .l]
  | .aluReg op _ | .aluHl op | .aluImm op _ => if op = .cp then [] else [.a]
  | .nop | .stop | .halt | .di | .ei | .cbTable | .unassigned _ | .ldHlReg _ | .ldHlImm _ | .ldAbsA _ | .ldhImmA _
  | .ldhCA | .ldAbsSp _ | .ldSpHl | .push _ | .incHl | .decHl | .scf | .ccf | .addSpE _ | .rotHl _ | .bitReg _ _
  | .bitHl _ | .resHl _ | .setHl _ | .jp _ | .jpCond _ _ | .jpHl | .jr _ | .jrCond _ _ | .call _ | .callCond _ _
  | .ret | .retCond _ | .reti | .rst _ => []

/-- SP is a destination of the operation, or its addressing moves SP (R29). -/
def writesSp : Form → Bool
  | .ldPairImm rr _ | .incPair rr | .decPair rr => decide (rr = .sp)
  | .ldSpHl | .addSpE _ | .push _ | .pop _ | .call _ | .callCond _ _ | .ret | .retCond _ | .reti | .rst _ => true
  | .nop | .stop | .halt | .di | .ei | .cbTable | .unassigned _ | .ldRegReg _ _ | .ldRegImm _ _ | .ldRegHl _
  | .ldHlReg _ | .ldHlImm _ | .ldAInd _ | .ldIndA _ | .ldAAbs _ | .ldAbsA _ | .ldhAImm _ | .ldhImmA _ | .ldhAC
  | .ldhCA | .ldAbsSp _ | .ldHlSpE _ | .aluReg _ _ | .aluHl _ | .aluImm _ _ | .incReg _ | .incHl | .decReg _ | .decHl
  | .daa | .cpl | .scf | .ccf | .addHlPair _ | .accRot _ | .rotReg _ _ | .rotHl _ | .bitReg _ _ | .bitHl _
  | .resReg _ _ | .resHl _ | .setReg _ _ | .setHl _ | .jp _ | .jpCond _ _ | .jpHl | .jr _ | .jrCond _ _ => false

/-- A control transfer: an operation that writes PC itself (R28). -/
def writesPc : Form → Bool
  | .jp _ | .jpCond _ _ | .jpHl | .jr _ | .jrCond _ _ | .call _ | .callCond _ _ | .ret | .retCond _ | .reti | .rst _ => true
  | .nop | .stop | .halt | .di | .ei | .cbTable | .unassigned _ | .ldRegReg _ _ | .ldRegImm _ _ | .ldRegHl _
  | .ldHlReg _ | .ldHlImm _ | .ldAInd _ | .ldIndA _ | .ldAAbs _ | .ldAbsA _ | .ldhAImm _ | .ldhImmA _ | .ldhAC
  | .ldhCA | .ldPairImm _ _ | .ldAbsSp _ | .ldSpHl | .ldHlSpE _ | .push _ | .pop _ | .aluReg _ _ | .aluHl _
  | .aluImm _ _ | .incReg _ | .incHl | .decReg _ | .decHl | .daa | .cpl | .scf | .ccf | .addHlPair _ | .incPair _
  | .decPair _ | .addSpE _ | .accRot _ | .rotReg _ _ | .rotHl _ | .bitReg _ _ | .bitHl _ | .resReg _ _ | .resHl _
  | .setReg _ _ | .setHl _ => false

/-- What an operation does to one flag, as the summary under R26 marks it: `-`, `0`, `1`, or a letter. -/
inductive FlagMark where
  | kept | zero | one | computed
  deriving DecidableEq, Repr

/-- The four marks of a row of that summary. -/
structure FlagPolicy where
  z : FlagMark
  n : FlagMark
  h : FlagMark
  c : FlagMark
  deriving DecidableEq, Repr

/-- The policy of an ALU operation (the summary under R26). -/
def aluPolicy : AluOp → FlagPolicy
  | .add | .adc => ⟨.computed, .zero, .computed, .computed⟩
  | .sub | .sbc | .cp => ⟨.computed, .one, .computed, .computed⟩
  | .and => ⟨.computed, .zero, .one, .zero⟩
  | .xor | .or => ⟨.computed, .zero, .zero, .zero⟩

/-- The policy of a rotate or shift of the extended table (the summary under R26). -/
def rotPolicy : RotOp → FlagPolicy
  | .swap => ⟨.computed, .zero, .zero, .zero⟩
  | _ => ⟨.computed, .zero, .zero, .computed⟩

/-- The flag summary under R26, one row per operation. -/
def flagPolicy : Form → FlagPolicy
  | .aluReg op _ | .aluHl op | .aluImm op _ => aluPolicy op
  | .incReg _ | .incHl => ⟨.computed, .zero, .computed, .kept⟩
  | .decReg _ | .decHl => ⟨.computed, .one, .computed, .kept⟩
  | .daa => ⟨.computed, .kept, .zero, .computed⟩
  | .cpl => ⟨.kept, .one, .one, .kept⟩
  | .scf => ⟨.kept, .zero, .zero, .one⟩
  | .ccf => ⟨.kept, .zero, .zero, .computed⟩
  | .addHlPair _ => ⟨.kept, .zero, .computed, .computed⟩
  | .addSpE _ | .ldHlSpE _ => ⟨.zero, .zero, .computed, .computed⟩
  | .accRot _ => ⟨.zero, .zero, .zero, .computed⟩
  | .rotReg op _ | .rotHl op => rotPolicy op
  | .bitReg _ _ | .bitHl _ => ⟨.computed, .zero, .one, .kept⟩
  | .pop rr => if rr = .af then ⟨.computed, .computed, .computed, .computed⟩ else ⟨.kept, .kept, .kept, .kept⟩
  | .nop | .stop | .halt | .di | .ei | .cbTable | .unassigned _ | .ldRegReg _ _ | .ldRegImm _ _ | .ldRegHl _
  | .ldHlReg _ | .ldHlImm _ | .ldAInd _ | .ldIndA _ | .ldAAbs _ | .ldAbsA _ | .ldhAImm _ | .ldhImmA _ | .ldhAC
  | .ldhCA | .ldPairImm _ _ | .ldAbsSp _ | .ldSpHl | .push _ | .incPair _ | .decPair _ | .resReg _ _ | .resHl _
  | .setReg _ _ | .setHl _ | .jp _ | .jpCond _ _ | .jpHl | .jr _ | .jrCond _ _ | .call _ | .callCond _ _ | .ret
  | .retCond _ | .reti | .rst _ => ⟨.kept, .kept, .kept, .kept⟩

/-- One flag went from `before` to `after` as its mark says. -/
def FlagMark.Allows : FlagMark → Bool → Bool → Prop
  | .kept, before, after => after = before
  | .zero, _, after => after = false
  | .one, _, after => after = true
  | .computed, _, _ => True

/-! ### Shapes of the result statements -/

/-- The four flags of a state are these, and F has nothing else in it (R21, R24). -/
def FlagsAre (t : State) (z n h c : Bool) : Prop :=
  t.flagZ = z ∧ t.flagN = n ∧ t.flagH = h ∧ t.flagC = c ∧ t.f.extractLsb' 0 4 = 0

/-- `i` is the operation `op A,x` with the operand byte `b`, and `s0` is `s` at the time of the operation: the three forms of
R205. -/
def AluOperand (i : Instr) (s : State) (op : AluOp) (b : Byte) (s0 : State) : Prop :=
  (∃ r, i.form = .aluReg op r ∧ b = s.reg r ∧ s0 = s)
    ∨ (i.form = .aluHl op ∧ b = s.readAt (s.cycleCount + 4) s.hl ∧ s0 = { s with cycleCount := s.cycleCount + 4 })
    ∨ (i.form = .aluImm op b ∧ s0 = s)

end Sys2Proof.Machine
end

