-- ==== Sys2Proof/WellFormed.lean ====
section
/-! DEFINITION. Well-formed instructions. Operands are typed at the width of their field (R92 to R97), so no operand can be
out of range; what remains to check is that a term is a whole instruction. -/

namespace Sys2Proof

/-- An instruction is whole: the base table's row for the table-selecting byte is not an instruction but the first byte of
one (R310). -/
def Instr.wellFormed (i : Instr) : Bool :=
  match i.form with
  | .cbTable => false
  | _ => true

/-- The eleven base values that select no instruction (R104). They are well-formed rows whose meaning is the engine's
fault (R311). -/
def Instr.unassigned (i : Instr) : Bool :=
  match i.form with
  | .unassigned _ => true
  | _ => false

end Sys2Proof
end

