-- ==== Sys2Proof/Certificates/Slice0/Obligations.lean ====
section
/-! DEFINITION. The statements for the provers. A meaning `exec i s` starts where the last byte of the instruction has been
read: PC addresses the next instruction (R27), and `cycleCount` counts the machine cycles of the bytes read. Each later machine
cycle adds 4 to it. `StepRunsTheDecodedInstruction` carries the statements about `exec` to `step`. The opcode map and the instructions' semantics
are the spec writer's, not its source's (D1, log 11), and so is the use of the default of an open parameter (logs 4, 9, 10): a
statement that rests on one is 'derived' in OBLIGATIONS.json. -/

open Sys2Proof Sys2Proof.Machine

/-! ### Encoding -/

/-- Words written from the field layouts of R91 to R102, one or more for each family, read as the instruction they stand
for. -/
def Obligations.DecodeSampleWords : Prop :=
  decode [0b00000000] = .ok (.nop, [])
    ∧ decode [0b00000001, 0x34, 0x12] = .ok (.ldBcD16 0x1234, [])
    ∧ decode [0b01000001] = .ok (.ldBC, [])
    ∧ decode [0b01110110] = .ok (.halt, [])
    ∧ decode [0b00010000, 0x00] = .ok (.stop, [0x00])
    ∧ decode [0b10010110] = .ok (.subAIndHl, [])
    ∧ decode [0b11101110, 0x5A] = .ok (.xorAD8 0x5A, [])
    ∧ decode [0b11110001] = .ok (.popAf, [])
    ∧ decode [0b00111001] = .ok (.addHlSp, [])
    ∧ decode [0b00111000, 0xFE] = .ok (.jrCE8 0xFE, [])
    ∧ decode [0b11010100, 0x00, 0x02] = .ok (.callNcA16 0x0200, [])
    ∧ decode [0b11101111] = .ok (.rst28, [])
    ∧ decode [0b11010011] = .ok (.illegalD3, [])
    ∧ decode [0b11001011, 0b00110111] = .ok (.cbSwapA, [])
    ∧ decode [0b11001011, 0b01111100] = .ok (.cbBit7H, [])
    ∧ decode [0b11001011, 0b11001011] = .ok (.cbSet1E, [])

/-- Every whole instruction, at every value of its operands, decodes from its own bytes, whatever follows them. -/
def Obligations.DecodeReadsBackEveryEncoding : Prop :=
  ∀ (i : Instr) (rest : List Byte), i.wellFormed = true → decode (encode i ++ rest) = .ok (i, rest)

/-- A decoded instruction was written in the bytes it was decoded from, and in no others: no bit is dropped. -/
def Obligations.DecodedBytesAreTheEncoding : Prop :=
  ∀ (bytes rest : List Byte) (i : Instr), decode bytes = .ok (i, rest) → bytes = encode i ++ rest

/-- The tables have no holes: from any three bytes some whole instruction of one to three bytes is decoded, and a lone byte
decodes unless operand bytes are missing (R90, R103, R127). -/
def Obligations.DecodeIsTotal : Prop :=
  (∀ (b0 b1 b2 : Byte) (rest : List Byte), ∃ i tail,
      decode (b0 :: b1 :: b2 :: rest) = .ok (i, tail) ∧ i.wellFormed = true
        ∧ 1 ≤ (encode i).length ∧ (encode i).length ≤ 3)
    ∧ ∀ (b : Byte), (∃ i, decode [b] = .ok (i, [])) ∨ ∃ k, decode [b] = .error (.truncated b k) ∧ (k = 1 ∨ k = 2)

/-- The step-count law over all 512 rows (R130, R129): `4n = cycles` for the one-cycle rows, `4n + 4` for the other base rows
and for the two-cycle extended rows, `4n + 8` for the longer extended rows; the table-selecting row has no steps; and the
sixteen conditionals cost `4k + 4` when their step `k` aborts. The split into these cases is the spec's own derivation. -/
def Obligations.StepCountLaw : Prop :=
  (∀ op : Byte, op ≠ Config.cbByte →
      let d := OpRef.descriptor { extended := false, op := op }
      (d.cycles = 4 ∧ d.steps.length = 1) ∨ (d.cycles > 4 ∧ 4 * d.steps.length + 4 = d.cycles))
    ∧ (∀ op : Byte,
      let d := OpRef.descriptor { extended := true, op := op }
      (d.cycles = 8 ∧ d.steps.length = 1) ∨ (d.cycles > 8 ∧ 4 * d.steps.length + 8 = d.cycles))
    ∧ (let d := OpRef.descriptor { extended := false, op := Config.cbByte }
      d.cycles = 4 ∧ d.steps.length = 0)
    ∧ ∀ (r : OpRef) (k : Nat) (m : MicroStep) (s t : State), (OpRef.descriptor r).steps[k]? = some m → m s = .abort t →
        (OpRef.descriptor r).cyclesNotTaken = some (4 * (k + 1) + 4)

/-! ### Registers, flags and views -/

/-- R24: the four flags are bits 7, 6, 5 and 4 of F, which is the low half of AF; they have no storage of their own. -/
def Obligations.FlagsAreBitsOfF : Prop :=
  ∀ s : State, s.flagZ = s.readF.getLsbD 7 ∧ s.flagN = s.readF.getLsbD 6 ∧ s.flagH = s.readF.getLsbD 5
    ∧ s.flagC = s.readF.getLsbD 4 ∧ loByte s.af = s.readF ∧ hiByte s.af = s.a

/-- R25: setting one flag touches its own bit only and nothing else in the machine; and a flag an instruction's rule lists as
unchanged is left exactly as it was (the list is the summary under R26). -/
def Obligations.EachFlagTouchesOnlyItsOwnBit : Prop :=
  (∀ (s : State) (v : Bool),
      (∀ k, (s.setFlagZ v).readF.getLsbD k = if k = 7 then v else s.readF.getLsbD k)
        ∧ (∀ k, (s.setFlagN v).readF.getLsbD k = if k = 6 then v else s.readF.getLsbD k)
        ∧ (∀ k, (s.setFlagH v).readF.getLsbD k = if k = 5 then v else s.readF.getLsbD k)
        ∧ (∀ k, (s.setFlagC v).readF.getLsbD k = if k = 4 then v else s.readF.getLsbD k)
        ∧ s.setFlagZ v = { s with f := (s.setFlagZ v).f } ∧ s.setFlagN v = { s with f := (s.setFlagN v).f }
        ∧ s.setFlagH v = { s with f := (s.setFlagH v).f } ∧ s.setFlagC v = { s with f := (s.setFlagC v).f })
    ∧ ∀ (i : Instr) (s t : State), exec i s = .next t →
        ((flagPolicy i.form).z = .kept → t.flagZ = s.flagZ) ∧ ((flagPolicy i.form).n = .kept → t.flagN = s.flagN)
          ∧ ((flagPolicy i.form).h = .kept → t.flagH = s.flagH) ∧ ((flagPolicy i.form).c = .kept → t.flagC = s.flagC)

/-- The register file (R20 to R23): a write changes the register it names and nothing else, said of the whole state; the 16-bit
views are projections of their halves, most significant half first, and writing one writes its halves and nothing else. That F reads with its low nibble zero, whatever
was written, is the spec's decision D4. -/
def Obligations.RegistersAndViews : Prop :=
  (∀ (s : State) (v : Byte) (r r' : Reg8),
    (s.writeF v).readF = v &&& 0xF0 ∧ s.readF.extractLsb' 0 4 = 0
      ∧ s.writeF v = { s with f := v &&& 0xF0 }
      ∧ (s.setReg r v).reg r' = (if r' = r then v else s.reg r')
      ∧ s.setReg r v = (match r with
        | .a => { s with a := v }
        | .b => { s with b := v }
        | .c => { s with c := v }
        | .d => { s with d := v }
        | .e => { s with e := v }
        | .h => { s with h := v }
        | .l => { s with l := v })
      ∧ (s.setReg r v).f = s.f ∧ (s.setReg r v).sp = s.sp ∧ (s.setReg r v).pc = s.pc ∧ (s.setReg r v).mem = s.mem
      ∧ s.setReg r (s.reg r) = s)
    ∧ ∀ (s : State) (v : Word),
    ((s.setBc v).bc = v ∧ (s.setBc v).b = v.extractLsb' 8 8 ∧ (s.setBc v).c = v.extractLsb' 0 8)
      ∧ ((s.setDe v).de = v ∧ (s.setDe v).d = v.extractLsb' 8 8 ∧ (s.setDe v).e = v.extractLsb' 0 8)
      ∧ ((s.setHl v).hl = v ∧ (s.setHl v).h = v.extractLsb' 8 8 ∧ (s.setHl v).l = v.extractLsb' 0 8)
      ∧ ((s.setAf v).af = v &&& 0xFFF0 ∧ (s.setAf v).a = v.extractLsb' 8 8 ∧ (s.setAf v).readF = v.extractLsb' 0 8 &&& 0xF0)
      ∧ s.setBc v = { s with b := v.extractLsb' 8 8, c := v.extractLsb' 0 8 }
      ∧ s.setDe v = { s with d := v.extractLsb' 8 8, e := v.extractLsb' 0 8 }
      ∧ s.setHl v = { s with h := v.extractLsb' 8 8, l := v.extractLsb' 0 8 }
      ∧ s.setAf v = { s with a := v.extractLsb' 8 8, f := v.extractLsb' 0 8 &&& 0xF0 }
      ∧ s.bc = s.b ++ s.c ∧ s.de = s.d ++ s.e ∧ s.hl = s.h ++ s.l ∧ s.af = s.a ++ s.readF
      ∧ s.setBc s.bc = s ∧ s.setDe s.de = s ∧ s.setHl s.hl = s

/-! ### The interrupt controller -/

/-- R334: `requestInterrupt` sets one bit of IF and changes nothing else; a second request of the same source changes nothing;
and a request that arrives before a step is seen by that step's interrupt check. -/
def Obligations.RequestSetsOnePendingBit : Prop :=
  (∀ (s : State) (k : Irq),
      s.requestInterrupt k = { s with ifr := s.ifr ||| (1 <<< k.val) }
        ∧ (∀ j : Irq, (s.requestInterrupt k).ifr.getLsbD j.val = (s.ifr.getLsbD j.val || decide (j = k)))
        ∧ (s.requestInterrupt k).requestInterrupt k = s.requestInterrupt k)
    ∧ ∀ (s : State) (k : Irq) (later : List (List Input)), s.atBoundary = true → s.inputs = [.request k] :: later →
        s.ime = true → s.ie.getLsbD k.val = true →
        step s = .next (State.takeInterrupt { s with ifr := s.ifr ||| (1 <<< k.val), inputs := later })

/-- R336: a read of IF answers `0xE0 | IF`; a write stores the low five bits, replacing all five, and nothing else. -/
def Obligations.PendingRegisterAccessors : Prop :=
  ∀ (s : State) (v : Byte), s.readIF = 0xE0 ||| s.ifr.setWidth 8 ∧ s.writeIF v = { s with ifr := v.extractLsb' 0 5 }

/-- R335: bits 4 to 0 of a read of IE are IE (of the others nothing is said, log 6, but that they are 0 on the reference platform);
a write stores the low five bits at once, so the next check uses the new mask. -/
def Obligations.EnableRegisterAccessors : Prop :=
  ∀ (s : State) (v : Byte), s.readIE.extractLsb' 0 5 = s.ie
    ∧ (s.platform = .reference → s.readIE.extractLsb' 5 3 = 0) ∧ s.writeIE v = { s with ie := v.extractLsb' 0 5 }
    ∧ ((s.writeIE v).deliverable = true ↔ s.ime = true ∧ v.extractLsb' 0 5 &&& s.ifr ≠ 0)

/-- `disableImmediately` clears IME and cancels a scheduled enable, and nothing else, and is DI's whole effect (R338). That the
phase Dispatch_IE uses it too, so that the slot is clear after it, is the spec's decision D12 (R346; log 18). -/
def Obligations.DisableClearsAndCancels : Prop :=
  ∀ s : State, s.disableImmediately = { s with ime := false, imeSched := .none }
    ∧ exec .di s = .next { s with ime := false, imeSched := .none }
    ∧ (s.pe ≠ 0 → s.phaseIe.ime = false ∧ s.phaseIe.imeSched = .none)

/-- The deferred enable (R337, R340; its three values and the second EI are the spec's decision D11): EI arms the slot only when
IME is 0 and nothing is scheduled; each completed instruction moves it on; RETI's enable is immediate. -/
def Obligations.DeferredEnable : Prop :=
  ∀ s : State,
    s.scheduleEnable true = (if s.ime = false ∧ s.imeSched = .none then { s with imeSched := .armed } else s)
      ∧ s.scheduleEnable false = { s with ime := true, imeSched := .none }
      ∧ (s.imeSched = .due → s.instructionFinished = { s with ime := true, imeSched := .none })
      ∧ (s.imeSched = .armed → s.instructionFinished = { s with imeSched := .due })
      ∧ (s.imeSched = .none → s.instructionFinished = s)

/-- The EI latency (R309, R387; with D11): EI leaves IME clear; the next instruction that completes, unless it is DI, leaves
IME set and nothing scheduled, whatever its length and whether or not its condition holds. -/
def Obligations.EnableTakesEffectAfterTheNextInstruction : Prop :=
  ∀ (s : State), s.ime = false → s.imeSched = .none →
    (∃ t, exec .ei s = .next t ∧ t = { s with imeSched := .armed }
      ∧ t.instructionFinished = { s with imeSched := .due })
      ∧ ∀ (i : Instr) (t : State), i ≠ .di → exec i { s with imeSched := .due } = .next t →
          t.instructionFinished.ime = true ∧ t.instructionFinished.imeSched = .none

/-- The race of R362: in two steps, EI directly followed by DI, IME is 0 after each of them and nothing is left scheduled,
although an enabled interrupt is pending throughout. The statement is the spec's own derivation from R337, R338 and R340. -/
def Obligations.EnableThenDisableNeverEnables : Prop :=
  ∀ (s : State), s.engine = .fetch → s.haltBug = false → s.inputs = [] → s.ime = false → s.imeSched = .none →
    s.readAt (s.cycleCount + 4) s.pc = 0xFB → s.readAt (s.cycleCount + 8) (s.pc + 1) = 0xF3 →
      ∃ t u, step s = .next t ∧ t.ime = false ∧ t.imeSched = .due ∧ step t = .next u ∧ u.ime = false
        ∧ u.imeSched = .none ∧ u.pc = s.pc + 2

/-- R341, R342: `pe = IE & IF`, an interrupt is deliverable when IME is 1 and `pe` is not 0; the source with the lowest index
wins, and the phase Dispatch_IE leaves the losers pending, so that they are deliverable when IME is 1 again. -/
def Obligations.LowestPendingSourceWins : Prop :=
  ∀ s : State, s.pe = s.ie &&& s.ifr ∧ (s.deliverable = true ↔ s.ime = true ∧ s.pe ≠ 0)
    ∧ (s.pe ≠ 0 →
      s.pe.getLsbD (lowest s.pe).val = true ∧ (∀ j : Irq, j < lowest s.pe → s.pe.getLsbD j.val = false)
        ∧ s.phaseIe.irqIdx = lowest s.pe
        ∧ (∀ j : Irq, s.phaseIe.ifr.getLsbD j.val = (s.ifr.getLsbD j.val && decide (j ≠ lowest s.pe)))
        ∧ ∀ j : Irq, j ≠ lowest s.pe → s.pe.getLsbD j.val = true →
            State.deliverable { s.phaseIe with ime := true } = true)

/-! ### Taking an interrupt -/

/-- The five phases at the engine's granularity, one machine cycle each (R345 to R349; decrement before the write is the
spec's decision D10, no quirk call D16, `ime_sched` D12). In Dispatch_IE, if nothing is pending and enabled any more, the
dispatch ends: IME as it was, nothing pushed, PC unchanged, back to Fetch. -/
def Obligations.DispatchPhases : Prop :=
  ∀ s : State, s.inputs = [] →
    (s.engine = .dispatchIf → machineCycle s = .next { s with engine := .dispatchIe })
      ∧ (s.engine = .dispatchIe → s.pe ≠ 0 →
        machineCycle s = .next
          { s with irqIdx := lowest s.pe, ifr := s.ifr &&& ~~~ ((1 : BitVec 5) <<< (lowest s.pe).val), ime := false,
                   imeSched := .none, engine := .dispatchPush1 })
      ∧ (s.engine = .dispatchIe → s.pe = 0 → machineCycle s = .next { s with engine := .fetch })
      ∧ (s.engine = .dispatchPush1 →
        machineCycle s = .next
          { State.write8 { s with sp := s.sp - 1 } (s.sp - 1) (s.pc.extractLsb' 8 8) with engine := .dispatchPush2 })
      ∧ (s.engine = .dispatchPush2 →
        machineCycle s = .next
          { State.write8 { s with sp := s.sp - 1 } (s.sp - 1) (s.pc.extractLsb' 0 8) with engine := .dispatchJump })
      ∧ (s.engine = .dispatchJump →
        machineCycle s = .next { s with pc := 0x0040 + 8 * BitVec.ofNat 16 s.irqIdx.val, engine := .fetch })

/-- The check comes before everything else at a boundary (R122, R344, R359, R360): when an interrupt is deliverable the
dispatch is taken from Fetch, Halted and Stopped alike, and no byte is fetched. -/
def Obligations.InterruptIsTakenBeforeTheFetch : Prop :=
  ∀ s : State, s.atBoundary = true → s.inputs = [] → s.ime = true → s.pe ≠ 0 → step s = .next s.takeInterrupt

/-- The net effect of a dispatch (R350), for a stack that is not at IE or IF: registers, flags and the halt-bug marker as they
were, the return address on the stack, high byte first, IF's bit and IME cleared, PC at the vector, 20 clock ticks. -/
def Obligations.DispatchNetEffect : Prop :=
  ∀ s : State, s.deliverable = true → isController (s.sp - 1) = false → isController (s.sp - 2) = false →
    let t := s.takeInterrupt
    t = { s with sp := s.sp - 2, pc := 0x0040 + 8 * BitVec.ofNat 16 (lowest s.pe).val, engine := .fetch, ime := false,
                 imeSched := .none, ifr := s.ifr &&& ~~~ ((1 : BitVec 5) <<< (lowest s.pe).val), irqIdx := lowest s.pe,
                 cycleCount := s.cycleCount + 20, mem := t.mem }
      ∧ t.read8 (s.sp - 1) = s.pc.extractLsb' 8 8 ∧ t.read8 (s.sp - 2) = s.pc.extractLsb' 0 8
      ∧ ∀ (n : Nat) (a : Word), isController a = false → a ≠ s.sp - 1 → a ≠ s.sp - 2 → t.readAt n a = s.readAt n a

/-! ### Halted, Stopped and the halt bug -/

/-- A halted engine (R359, R361; the pending test and the level reading are decisions D8 and D9, log 9) with an enabled
interrupt pending and IME clear wakes and runs the instruction at PC in the same step; with nothing pending and enabled it
idles for one machine cycle, in which nothing changes. A stopped engine (R360, decision D28) is left only by a dispatch: with
IME clear it idles whatever is pending. The two hangs of R391, Stopped with IME clear, whatever arrives, and Halted with no
source enabled and nothing to arrive, are stable ends; from a stable end every number of steps completes, none of them changes
the engine's state, IME or PC, or anything but the time if no event comes; a run ends there, and a Halted or Stopped state that
is no stable end is left by its next step, if no event comes. What ends a run is the model's own choice, as R135 asks
(log 15). -/
def Obligations.HaltedAndStopped : Prop :=
  (∀ s : State, s.inputs = [] →
    (s.engine = .halted → s.ime = false → s.pe ≠ 0 → step s = step { s with engine := .fetch })
      ∧ (s.engine = .halted → s.pe = 0 → step s = .next { s with cycleCount := s.cycleCount + 4 })
      ∧ (s.engine = .stopped → s.deliverable = false → step s = .next { s with cycleCount := s.cycleCount + 4 })
      ∧ (s.engine = .halted ∨ s.engine = .stopped → s.stableEnd = false → ∀ t, step s = .next t → t.engine ≠ s.engine))
    ∧ (∀ s : State, s.engine = .stopped → s.ime = false → s.stableEnd = true)
    ∧ (∀ s : State, s.engine = .halted → s.ie = 0 → s.inputs = [] → s.stableEnd = true)
    ∧ ∀ s : State, s.stableEnd = true →
      (s.engine = .halted ∨ s.engine = .stopped)
        ∧ (∀ k : Nat, ∃ t, steps k s = .next t ∧ t.stableEnd = true ∧ t.engine = s.engine ∧ t.ime = s.ime ∧ t.pc = s.pc
          ∧ t.cycleCount = s.cycleCount + 4 * k ∧ (s.inputs = [] → t = { s with cycleCount := s.cycleCount + 4 * k }))
        ∧ ∀ (stop : Word) (fuel : Nat), s.pc ≠ stop → run stop fuel s = .stable s

/-- The halt bug's fetch (R36, R125, R137): with the marker set, an instruction whose first byte lies at PC and whose further
bytes lie at PC again and after it runs, with PC one lower than usual, and the marker is clear. -/
def Obligations.HaltBugFetchDoesNotAdvance : Prop :=
  ∀ (s : State) (i : Instr) (b : Byte) (more : List Byte), s.engine = .fetch → s.haltBug = true → s.inputs = [] →
    s.deliverable = false → i.wellFormed = true → encode i = b :: more → s.readAt (s.cycleCount + 4) s.pc = b →
    s.holdsAt (s.cycleCount + 8) s.pc more →
      step s = finish (exec i
        { s with haltBug := false, pc := s.pc + BitVec.ofNat 16 more.length,
                 cycleCount := s.cycleCount + 4 + 4 * more.length })

/-! ### The step and the engine -/

/-- A step at a Fetch boundary runs the instruction that lies at PC: the events due now arrive, its bytes are read, one a machine
cycle, PC moves past them, its meaning runs, and its completion resolves a deferred enable (R27, R75, R125, R131). -/
def Obligations.StepRunsTheDecodedInstruction : Prop :=
  ∀ (s : State) (i : Instr), s.engine = .fetch → s.haltBug = false → s.arrive.deliverable = false → i.wellFormed = true →
    s.arrive.holdsAt (s.cycleCount + 4) s.pc (encode i) →
      let u : State := { s.arrive with pc := s.pc + BitVec.ofNat 16 (encode i).length,
                                       cycleCount := s.cycleCount + 4 * (encode i).length }
      (∀ t, exec i u = .next t → step s = .next t.instructionFinished) ∧ (∀ f, exec i u = .fault f → step s = .fault f)

/-- The step agrees with the engine (R10, R121 to R133, R345 to R350): from an instruction boundary, with no event of another
collaborator inside the instruction, running the engine's machine cycles to the next boundary gives the same outcome in
everything that is alive there. -/
def Obligations.StepAgreesWithTheEngine : Prop :=
  ∀ s : State, s.atBoundary = true → (∀ e ∈ (s.inputs.drop 1).take 5, e = []) → Agree (step s) (runToBoundary 6 s)

/-- The tick divider (R120, R134; which tick works is decision D7): three calls of `advance` only count, and the fourth runs one
machine cycle. -/
def Obligations.EveryFourthTickWorks : Prop :=
  ∀ s : State, s.tickDiv = 0 →
    advances 1 s = .next { s with tickDiv := 1, cycleCount := s.cycleCount + 1 }
      ∧ advances 2 s = .next { s with tickDiv := 2, cycleCount := s.cycleCount + 2 }
      ∧ advances 3 s = .next { s with tickDiv := 3, cycleCount := s.cycleCount + 3 }
      ∧ advances 4 s = machineCycle { s with cycleCount := s.cycleCount + 4 }

/-- What an instruction costs (R129, R401): a meaning adds the cost of its row, or the cost of the path not taken, less the four
ticks of each byte already read. -/
def Obligations.InstructionCost : Prop :=
  ∀ (i : Instr) (s t : State), exec i s = .next t →
    t.cycleCount + 4 * (encode i).length = s.cycleCount
      + (if goesThrough i.form s then formCycles i.form else (formCyclesNotTaken i.form).getD 0)

/-- The invariant holds at reset (R43; log 4), and reset stands on the reference platform (R78), which is the model's choice
(log 21). -/
def Obligations.ResetIsSound : Prop := State.Inv State.reset ∧ State.reset.onReferencePlatform

/-- Every step keeps the invariant: memory in canonical form, F's low nibble zero, an enable scheduled only while IME is 0, no
dispatch while one is scheduled, the step index inside the step list (R21, R136, R309 (g), R337, R340). And no step leaves its
platform: the reference platform of R78, on which no collaborator writes memory, stays what it is. -/
def Obligations.EveryStepKeepsTheInvariant : Prop :=
  ∀ s t : State, s.Inv → step s = .next t →
    t.Inv ∧ t.platform = s.platform ∧ (s.onReferencePlatform → t.onReferencePlatform)

/-- The complete list of faults (R331, R136): from a sound state a step faults only by fetching one of the eleven unassigned
opcodes; a step past the end of a step list is unreachable, in the engine too. -/
def Obligations.OnlyUnassignedOpcodesFault : Prop :=
  (∀ (s : State) (f : Fault), s.Inv → step s = .fault f →
      ∃ op : Byte, f = .unknownOpcode op
        ∧ op ∈ ([0xD3, 0xDB, 0xDD, 0xE3, 0xE4, 0xEB, 0xEC, 0xED, 0xF4, 0xFC, 0xFD] : List Byte)
        ∧ (∃ n, s.arrive.readAt n s.pc = op))
    ∧ ∀ (s : State) (r : OpRef), s.Inv → machineCycle s ≠ .fault (.malformedDescriptor r)

/-- Reset (R43, R380 to R383): Fetch, interrupts masked, nothing scheduled, no marker, the divider at 0. The register values are
the spec's defaults (decisions D5 to D7, log 4), memory, platform and inputs the model's (logs 2, 3, 21). -/
def Obligations.ResetValues : Prop :=
  let s := State.reset
  s.engine = .fetch ∧ s.ime = false ∧ s.imeSched = .none ∧ s.haltBug = false ∧ s.tickDiv = 0 ∧ s.cycleCount = 0
    ∧ s.a = 0x01 ∧ s.readF = 0xB0 ∧ s.bc = 0x0013 ∧ s.de = 0x00D8 ∧ s.hl = 0x014D ∧ s.sp = 0xFFFE ∧ s.pc = 0x0100
    ∧ s.ie = 0 ∧ s.readIF = 0xE0 ∧ s.mem = [] ∧ s.platform = .reference ∧ s.inputs = []

/-! ### The bus and memory -/

/-- A read answers the latest write to its address, and a write changes no other address (R60, R61, R72 (b)); IE and IF, at their
addresses, show the bits their accessors keep, and on the reference platform IE reads with its upper three bits zero (R78, R356;
the addresses are the defaults of log 10). The composed forms are little-endian at every address, aligned or not (R62, R67, R68):
a read of two bytes is the two reads, a write is the low byte, then the high byte at the next address, and changes no third
address. At 0xFFFF, where the next address wraps to 0x0000 (decision D20), the low byte is IE's and the high byte lies at
0x0000; and where one of the two addresses is a controller register's, that register gets the five low bits of its byte. -/
def Obligations.ReadAfterWrite : Prop :=
  ∀ (s : State) (n : Nat) (a b : Word) (v : Byte),
    (isController a = false → (s.write8 a v).readAt n a = v)
      ∧ (s.write8 0xFF0F v).readAt n 0xFF0F = 0xE0 ||| v
      ∧ ((s.write8 0xFFFF v).readAt n 0xFFFF).extractLsb' 0 5 = v.extractLsb' 0 5
      ∧ (s.platform = .reference → (s.write8 0xFFFF v).readAt n 0xFFFF = v &&& 0x1F)
      ∧ (b ≠ a → (s.write8 a v).readAt n b = s.readAt n b)
      ∧ s.write8 a v = { s with mem := (s.write8 a v).mem, ie := (s.write8 a v).ie, ifr := (s.write8 a v).ifr }
      ∧ (isController a = false → isController (a + 1) = false → ∀ x : Word,
          (s.write16 a x).read8 a = x.extractLsb' 0 8 ∧ (s.write16 a x).read8 (a + 1) = x.extractLsb' 8 8
            ∧ (s.write16 a x).read16 a = x)
      ∧ s.read16 a = s.read8 (a + 1) ++ s.read8 a
      ∧ (∀ x : Word, b ≠ a → b ≠ a + 1 → (s.write16 a x).readAt n b = s.readAt n b)
      ∧ (∀ x : Word,
          s.write16 0xFFFF x = State.write8 { s with ie := x.extractLsb' 0 5 } 0x0000 (x.extractLsb' 8 8)
            ∧ (s.write16 0xFFFF x).ie = x.extractLsb' 0 5 ∧ (s.write16 0xFFFF x).read8 0x0000 = x.extractLsb' 8 8)
      ∧ s.read16 0xFFFF = s.read8 0x0000 ++ s.readIE
      ∧ ∀ x : Word,
        ((s.write16 0xFFFE x).read8 0xFFFE = x.extractLsb' 0 8 ∧ (s.write16 0xFFFE x).ie = x.extractLsb' 8 5)
          ∧ ((s.write16 0xFF0E x).read8 0xFF0E = x.extractLsb' 0 8 ∧ (s.write16 0xFF0E x).ifr = x.extractLsb' 8 5)
          ∧ ((s.write16 0xFF0F x).ifr = x.extractLsb' 0 5 ∧ (s.write16 0xFF0F x).read8 0xFF10 = x.extractLsb' 8 8)

/-- Memory's canonical form (log 3): a write at a bus address keeps it, and two memories in that form that read alike at every
address are the same list. -/
def Obligations.MemoryIsCanonical : Prop :=
  (∀ (m : Memory) (a : Word) (v : Byte), m.wf = true → (m.write a.toNat v).wf = true)
    ∧ ∀ (m m' : Memory), m.wf = true → m'.wf = true → (∀ a : Word, m.read a.toNat = m'.read a.toNat) → m = m'

/-- The quirk (R392, R394, R396): nothing happens unless the address is in the region, the display enabled and the pipeline in
its scan mode, and nothing ever on the reference platform, where the display is disabled (R78); even then no byte outside the
region and no other state changes; and then each byte of the region becomes what the routine makes of it: the free value
`Config.oamCorrupt` at the tag, the ticks in the line, the old bytes of the region in order, and the byte's offset (logs 7, 8).
Whether a call is armed rests on free values, so this half is an equation by cases and no hypothesis; the statement holds
whatever the routine answers. -/
def Obligations.QuirkTouchesOnlySpriteMemory : Prop :=
  ∀ (tag : QuirkTag) (addr : Word) (s : State),
    (¬ armed s.platform s.cycleCount addr → s.quirk tag addr = s)
      ∧ (s.platform = .reference → s.quirk tag addr = s)
      ∧ s.quirk tag addr = { s with mem := (s.quirk tag addr).mem }
      ∧ (∀ (n : Nat) (a : Word), inOam a = false → (s.quirk tag addr).readAt n a = s.readAt n a)
      ∧ s.quirk tag addr = (if armed s.platform s.cycleCount addr
          then { s with mem := oamCorrupted tag (Config.ticksInLine s.cycleCount) s.mem } else s)
      ∧ ∀ (n i : Nat), i < 256 →
          (s.quirk tag addr).readAt n (0xFE00 + BitVec.ofNat 16 i) =
            if armed s.platform s.cycleCount addr then
              Config.oamCorrupt tag (Config.ticksInLine s.cycleCount)
                ((List.range 256).map fun j => s.readAt n (0xFE00 + BitVec.ofNat 16 j)) i
            else s.readAt n (0xFE00 + BitVec.ofNat 16 i)

/-! ### What each instruction does -/

/-- Every instruction of the tables but the eleven unassigned opcodes completes, from every state, with every operand: no mode,
alignment, address or value stops it (R63, R68, R332, R354). -/
def Obligations.EveryAssignedInstructionCompletes : Prop :=
  ∀ (i : Instr) (s : State), i.unassigned = false → ∃ t, exec i s = .next t

/-- The eleven unassigned opcodes fault, in every state, naming the opcode (R311, decision D3), and they are exactly the eleven
of R104. -/
def Obligations.UnassignedOpcodesFault : Prop :=
  ∀ (i : Instr) (s : State),
    (i ∈ [Instr.illegalD3, .illegalDB, .illegalDD, .illegalE3, .illegalE4, .illegalEB, .illegalEC, .illegalED, .illegalF4,
        .illegalFC, .illegalFD] ↔ i.unassigned = true)
      ∧ ∀ op, i.form = .unassigned op → encode i = [op] ∧ exec i s = .fault (.unknownOpcode op)

/-- The 8-bit loads into a register (R160 to R162, R169, R171, R173): register, immediate, `(HL)`, absolute and high page. Each
is an equation for the whole next state, so it is its frame too. A byte read from memory is read one machine cycle after the
last byte of the instruction. -/
def Obligations.LoadsIntoARegister : Prop :=
  ∀ (i : Instr) (s : State),
    let s1 : State := { s with cycleCount := s.cycleCount + 4 }
    (∀ r r', i.form = .ldRegReg r r' → exec i s = .next (s.setReg r (s.reg r')))
      ∧ (∀ r n, i.form = .ldRegImm r n → exec i s = .next (s.setReg r n))
      ∧ (∀ r, i.form = .ldRegHl r → exec i s = .next (s1.setReg r (s1.read8 (s.h ++ s.l))))
      ∧ (∀ a, i.form = .ldAAbs a → exec i s = .next { s1 with a := s1.read8 a })
      ∧ (∀ n, i.form = .ldhAImm n → exec i s = .next { s1 with a := s1.read8 (0xFF00 ||| n.setWidth 16) })
      ∧ (i.form = .ldhAC → exec i s = .next { s1 with a := s1.read8 (0xFF00 ||| s.c.setWidth 16) })

/-- The 8-bit stores (R163, R164, R170, R172, R174): nothing changes but the byte stored, and the time. -/
def Obligations.StoresOfAByte : Prop :=
  ∀ (i : Instr) (s : State),
    let s1 : State := { s with cycleCount := s.cycleCount + 4 }
    (∀ r, i.form = .ldHlReg r → exec i s = .next (s1.write8 (s.h ++ s.l) (s.reg r)))
      ∧ (∀ n, i.form = .ldHlImm n → exec i s = .next (s1.write8 (s.h ++ s.l) n))
      ∧ (∀ a, i.form = .ldAbsA a → exec i s = .next (s1.write8 a s.a))
      ∧ (∀ n, i.form = .ldhImmA n → exec i s = .next (s1.write8 (0xFF00 ||| n.setWidth 16) s.a))
      ∧ (i.form = .ldhCA → exec i s = .next (s1.write8 (0xFF00 ||| s.c.setWidth 16) s.a))

/-- The loads and stores of A through BC, DE, `(HL+)` and `(HL-)` (R165 to R168, R175 to R178): HL moves after the access, with
no flag written. -/
def Obligations.IndirectLoadsAndStores : Prop :=
  ∀ (i : Instr) (s : State),
    let s1 : State := { s with cycleCount := s.cycleCount + 4 }
    (i.form = .ldAInd .bc → exec i s = .next { s1 with a := s1.read8 (s.b ++ s.c) })
      ∧ (i.form = .ldAInd .de → exec i s = .next { s1 with a := s1.read8 (s.d ++ s.e) })
      ∧ (i.form = .ldAInd .hlInc → exec i s = .next (State.setHl { s1 with a := s1.read8 s.hl } (s.hl + 1)))
      ∧ (i.form = .ldAInd .hlDec → exec i s = .next (State.setHl { s1 with a := s1.read8 s.hl } (s.hl - 1)))
      ∧ (i.form = .ldIndA .bc → exec i s = .next (s1.write8 (s.b ++ s.c) s.a))
      ∧ (i.form = .ldIndA .de → exec i s = .next (s1.write8 (s.d ++ s.e) s.a))
      ∧ (i.form = .ldIndA .hlInc → exec i s = .next ((s1.write8 s.hl s.a).setHl (s.hl + 1)))
      ∧ (i.form = .ldIndA .hlDec → exec i s = .next ((s1.write8 s.hl s.a).setHl (s.hl - 1)))

/-- The 16-bit loads (R191 to R193): an immediate into a pair, with the quirk call on the loaded value (decision D16); SP to an
absolute address, low byte first; HL into SP. -/
def Obligations.SixteenBitLoads : Prop :=
  ∀ (i : Instr) (s : State),
    let s1 : State := { s with cycleCount := s.cycleCount + 4 }
    (∀ rr n, i.form = .ldPairImm rr n → exec i s = .next ((s.quirk .ld16 n).setPair rr n))
      ∧ (∀ a, i.form = .ldAbsSp a → exec i s = .next
          (State.write8 { s1.write8 a (s.sp.extractLsb' 0 8) with cycleCount := s.cycleCount + 8 } (a + 1)
            (s.sp.extractLsb' 8 8)))
      ∧ (i.form = .ldSpHl → exec i s = .next { s1 with sp := s.h ++ s.l })

/-- PUSH (R190, R195; decrement before the write is D10, the quirk calls D16): an internal cycle, then high byte at SP - 1 and
low byte at SP - 2, each after its quirk call with the old SP. -/
def Obligations.PushStoresHighThenLow : Prop :=
  ∀ (i : Instr) (s : State) (rr : StackReg), i.form = .push rr →
    let s1 := State.quirk .push1 s.sp { s with cycleCount := s.cycleCount + 8 }
    let s2 := State.write8 { s1 with sp := s.sp - 1 } (s.sp - 1) ((s.stackPair rr).extractLsb' 8 8)
    let s3 := State.quirk .push2 (s.sp - 1) { s2 with cycleCount := s.cycleCount + 12 }
    exec i s = .next (State.write8 { s3 with sp := s.sp - 2 } (s.sp - 2) ((s.stackPair rr).extractLsb' 0 8))

/-- POP (R190, R196, R197; the quirk calls are D16, F's low nibble D4): low byte from SP, then high byte from SP + 1, each after its
quirk call; SP + 2. POP AF writes all four flags from the low byte and drops its low nibble. -/
def Obligations.PopLoadsLowThenHigh : Prop :=
  ∀ (i : Instr) (s : State) (rr : StackReg), i.form = .pop rr →
    let s1 := State.quirk .pop1 s.sp { s with cycleCount := s.cycleCount + 4 }
    let s2 := State.quirk .pop2 (s.sp + 1) { s1 with sp := s.sp + 1, cycleCount := s.cycleCount + 8 }
    let v : Word := s2.read8 (s.sp + 1) ++ s1.read8 s.sp
    exec i s = .next (State.setStackPair rr v { s2 with sp := s.sp + 2 })
      ∧ (rr = .af → ∃ t, exec i s = .next t ∧ t.a = s2.read8 (s.sp + 1) ∧ t.readF = s1.read8 s.sp &&& 0xF0)

/-- What PUSH stores POP brings back, SP with it: PUSH then POP of any two pairs copies one into the other (AF without its low
nibble, decision D4), while the stack is not at IE or IF and none of the four quirk calls is armed (R67, R190, R195 to R197;
the order of decrement and write is D10). -/
def Obligations.PopUndoesPush : Prop :=
  ∀ (i j : Instr) (s : State) (rr rr' : StackReg), i.form = .push rr → j.form = .pop rr' →
    isController (s.sp - 1) = false → isController (s.sp - 2) = false →
    ¬ armed s.platform (s.cycleCount + 8) s.sp → ¬ armed s.platform (s.cycleCount + 12) (s.sp - 1) →
    ¬ armed s.platform (s.cycleCount + 16) (s.sp - 2) → ¬ armed s.platform (s.cycleCount + 20) (s.sp - 1) →
      ∃ t u, exec i s = .next t ∧ exec j t = .next u ∧ u.sp = s.sp
        ∧ u.stackPair rr' = (if rr' = .af then s.stackPair rr &&& 0xFFF0 else s.stackPair rr)
        ∧ u.read8 (s.sp - 1) = (s.stackPair rr).extractLsb' 8 8 ∧ u.read8 (s.sp - 2) = (s.stackPair rr).extractLsb' 0 8

/-- ADD and ADC, all three operand forms (R205 to R207): A gets the low 8 bits of the sum; half-carry out of bit 3, carry out of
bit 7, both with the carry-in; nothing else changes. -/
def Obligations.AddResults : Prop :=
  ∀ (i : Instr) (s s0 : State) (op : AluOp) (b : Byte), (op = .add ∨ op = .adc) → AluOperand i s op b s0 →
    let c := if op = .adc then s.flagC.toNat else 0
    ∃ t, exec i s = .next t ∧ t = { s0 with a := t.a, f := t.f } ∧ t.a.toNat = (s.a.toNat + b.toNat + c) % 256
      ∧ FlagsAre t (decide (t.a = 0)) false (decide (s.a.toNat % 16 + b.toNat % 16 + c > 15))
          (decide (s.a.toNat + b.toNat + c > 255))

/-- SUB, SBC and CP, all three operand forms (R205, R208, R209, R213): the flags are the borrows of the difference; CP leaves
A. -/
def Obligations.SubtractResults : Prop :=
  ∀ (i : Instr) (s s0 : State) (op : AluOp) (b : Byte), (op = .sub ∨ op = .sbc ∨ op = .cp) → AluOperand i s op b s0 →
    let c := if op = .sbc then s.flagC.toNat else 0
    ∃ t, exec i s = .next t ∧ t = { s0 with a := t.a, f := t.f }
      ∧ t.a = (if op = .cp then s.a else BitVec.ofInt 8 ((s.a.toNat : Int) - b.toNat - c))
      ∧ FlagsAre t (decide ((s.a.toNat : Int) - b.toNat - c = 0 ∨ (s.a.toNat : Int) - b.toNat - c = -256)) true
          (decide (s.a.toNat % 16 < b.toNat % 16 + c)) (decide (s.a.toNat < b.toNat + c))

/-- AND, XOR and OR, all three operand forms (R205, R210 to R212): the bitwise result in A; Z from it, N and C cleared, H set by
AND alone. -/
def Obligations.LogicResults : Prop :=
  ∀ (i : Instr) (s s0 : State) (op : AluOp) (b : Byte), (op = .and ∨ op = .xor ∨ op = .or) → AluOperand i s op b s0 →
    ∃ t, exec i s = .next t ∧ t = { s0 with a := t.a, f := t.f }
      ∧ t.a = (if op = .and then s.a &&& b else if op = .xor then s.a ^^^ b else s.a ||| b)
      ∧ FlagsAre t (decide (t.a = 0)) false (decide (op = .and)) false

/-- INC and DEC of a register and of `(HL)` (R214 to R217): the carry flag is kept, half-carry from the low nibble of the old
value; the `(HL)` forms read in one machine cycle and write in the next. -/
def Obligations.IncrementAndDecrement : Prop :=
  ∀ (i : Instr) (s : State),
    let s2 : State := { s with cycleCount := s.cycleCount + 8 }
    let v := s.readAt (s.cycleCount + 4) s.hl
    (∀ r, i.form = .incReg r → ∃ t, exec i s = .next t ∧ t = { s.setReg r (s.reg r + 1) with f := t.f }
        ∧ FlagsAre t (decide (s.reg r = 0xFF)) false (decide (s.reg r &&& 0xF = 0xF)) s.flagC)
      ∧ (∀ r, i.form = .decReg r → ∃ t, exec i s = .next t ∧ t = { s.setReg r (s.reg r - 1) with f := t.f }
        ∧ FlagsAre t (decide (s.reg r = 1)) true (decide (s.reg r &&& 0xF = 0)) s.flagC)
      ∧ (i.form = .incHl → ∃ t, exec i s = .next t ∧ t = { s2.write8 s.hl (v + 1) with f := t.f }
        ∧ FlagsAre t (decide (v = 0xFF)) false (decide (v &&& 0xF = 0xF)) s.flagC)
      ∧ (i.form = .decHl → ∃ t, exec i s = .next t ∧ t = { s2.write8 s.hl (v - 1) with f := t.f }
        ∧ FlagsAre t (decide (v = 1)) true (decide (v &&& 0xF = 0)) s.flagC)

/-- DAA by the algorithm of R218; CPL, SCF and CCF with the flags they list and Z kept (R219 to R221). -/
def Obligations.AccumulatorAndCarryInstructions : Prop :=
  ∀ s : State,
    let low : Bool := s.flagH || (!s.flagN && decide (s.a.toNat % 16 > 9))
    let high : Bool := s.flagC || (!s.flagN && decide (s.a.toNat > 0x99))
    let corr : Byte := (if low then 6 else 0) + (if high then 0x60 else 0)
    (∃ t, exec .daa s = .next t ∧ t = { s with a := t.a, f := t.f }
        ∧ t.a = (if s.flagN then s.a - corr else s.a + corr)
        ∧ FlagsAre t (decide (t.a = 0)) s.flagN false (s.flagC || high))
      ∧ (∃ t, exec .cpl s = .next t ∧ t = { s with a := t.a, f := t.f } ∧ t.a = ~~~ s.a ∧ FlagsAre t s.flagZ true true s.flagC)
      ∧ (∃ t, exec .scf s = .next t ∧ t = { s with f := t.f } ∧ FlagsAre t s.flagZ false false true)
      ∧ (∃ t, exec .ccf s = .next t ∧ t = { s with f := t.f } ∧ FlagsAre t s.flagZ false false (!s.flagC))

/-- What DAA is for (R218): after ADD of two packed decimal numbers it leaves their decimal sum, and the carry is the hundred. -/
def Obligations.DecimalAdjustAfterAdd : Prop :=
  ∀ (s : State) (x y : Nat), x < 100 → y < 100 → s.a = BitVec.ofNat 8 (x / 10 * 16 + x % 10) →
    s.b = BitVec.ofNat 8 (y / 10 * 16 + y % 10) →
      ∃ t u, exec .addAB s = .next t ∧ exec .daa t = .next u
        ∧ u.a = BitVec.ofNat 8 ((x + y) % 100 / 10 * 16 + (x + y) % 10) ∧ u.flagC = decide (x + y ≥ 100)

/-- The 16-bit arithmetic (R240 to R242; the quirk calls are D16): ADD HL,rr with half-carry out of bit 11 and Z kept; INC rr and
DEC rr with no flag, wrapping. -/
def Obligations.SixteenBitArithmetic : Prop :=
  ∀ (i : Instr) (s : State) (rr : Reg16),
    let s1 : State := { s with cycleCount := s.cycleCount + 4 }
    (i.form = .addHlPair rr → ∃ t, exec i s = .next t ∧ t = { s1 with h := t.h, l := t.l, f := t.f }
        ∧ t.hl = s.hl + s.pair rr
        ∧ FlagsAre t s.flagZ false (decide (s.hl.toNat % 4096 + (s.pair rr).toNat % 4096 > 4095))
            (decide (s.hl.toNat + (s.pair rr).toNat > 65535)))
      ∧ (i.form = .incPair rr → exec i s = .next ((s1.quirk .incDec (s.pair rr)).setPair rr (s.pair rr + 1)))
      ∧ (i.form = .decPair rr → exec i s = .next ((s1.quirk .incDec (s.pair rr)).setPair rr (s.pair rr - 1)))

/-- ADD SP,e8 and LD HL,SP+e8 (R194, R243, R244, with the resolution of C2): the sum with the sign-extended byte, and the flags of
the unsigned 8-bit addition of the low byte. -/
def Obligations.StackPointerPlusDisplacement : Prop :=
  ∀ (i : Instr) (s : State) (e : Byte),
    let sum : Word := s.sp + e.signExtend 16
    let half := decide (s.sp.toNat % 16 + e.toNat % 16 > 15)
    let carry := decide (s.sp.toNat % 256 + e.toNat > 255)
    (i.form = .addSpE e → ∃ t, exec i s = .next t ∧ t = { s with sp := sum, f := t.f, cycleCount := s.cycleCount + 8 }
        ∧ FlagsAre t false false half carry)
      ∧ (i.form = .ldHlSpE e → ∃ t, exec i s = .next t
        ∧ t = { s with h := t.h, l := t.l, f := t.f, cycleCount := s.cycleCount + 4 } ∧ t.hl = sum
        ∧ FlagsAre t false false half carry)

/-- The four accumulator rotates (R250 to R253): Z is forced to 0. -/
def Obligations.AccumulatorRotates : Prop :=
  ∀ s : State,
    (∃ t, exec .rlca s = .next t ∧ t = { s with a := s.a.rotateLeft 1, f := t.f }
        ∧ FlagsAre t false false false (s.a.getLsbD 7))
      ∧ (∃ t, exec .rla s = .next t ∧ t = { s with a := s.a <<< 1 ||| (BitVec.ofBool s.flagC).setWidth 8, f := t.f }
        ∧ FlagsAre t false false false (s.a.getLsbD 7))
      ∧ (∃ t, exec .rrca s = .next t ∧ t = { s with a := s.a.rotateRight 1, f := t.f }
        ∧ FlagsAre t false false false (s.a.getLsbD 0))
      ∧ (∃ t, exec .rra s = .next t ∧ t = { s with a := s.a >>> 1 ||| (BitVec.ofBool s.flagC).setWidth 8 <<< 7, f := t.f }
        ∧ FlagsAre t false false false (s.a.getLsbD 0))

/-- The rotates and shifts of the extended table on a register and on `(HL)` (R254 to R262): result and carry by shifts and
rotations of the whole byte, Z from the result, N and H cleared; the `(HL)` forms read, then write. -/
def Obligations.RotatesAndShifts : Prop :=
  ∀ (i : Instr) (s : State) (op : RotOp),
    let cin : Byte := (BitVec.ofBool s.flagC).setWidth 8
    let out (v : Byte) : Byte × Bool := match op with
      | .rlc => (v.rotateLeft 1, v.getLsbD 7)
      | .rrc => (v.rotateRight 1, v.getLsbD 0)
      | .rl => (v <<< 1 ||| cin, v.getLsbD 7)
      | .rr => (v >>> 1 ||| cin <<< 7, v.getLsbD 0)
      | .sla => (v <<< 1, v.getLsbD 7)
      | .sra => (v.sshiftRight 1, v.getLsbD 0)
      | .swap => (v.rotateLeft 4, false)
      | .srl => (v >>> 1, v.getLsbD 0)
    let s2 : State := { s with cycleCount := s.cycleCount + 8 }
    let m := s.readAt (s.cycleCount + 4) s.hl
    (∀ r, i.form = .rotReg op r → ∃ t, exec i s = .next t ∧ t = { s.setReg r (out (s.reg r)).1 with f := t.f }
        ∧ FlagsAre t (decide ((out (s.reg r)).1 = 0)) false false (out (s.reg r)).2)
      ∧ (i.form = .rotHl op → ∃ t, exec i s = .next t ∧ t = { s2.write8 s.hl (out m).1 with f := t.f }
        ∧ FlagsAre t (decide ((out m).1 = 0)) false false (out m).2)

/-- BIT, RES and SET on a register and on `(HL)` (R254, R263 to R265): BIT writes flags only, C kept; RES and SET write one bit and
no flag; the `(HL)` forms of RES and SET read, then write. -/
def Obligations.BitInstructions : Prop :=
  ∀ (i : Instr) (s : State) (b : BitVec 3),
    let s1 : State := { s with cycleCount := s.cycleCount + 4 }
    let s2 : State := { s with cycleCount := s.cycleCount + 8 }
    let m := s1.read8 s.hl
    (∀ r, i.form = .bitReg b r → ∃ t, exec i s = .next t ∧ t = { s with f := t.f }
        ∧ FlagsAre t (!(s.reg r).getLsbD b.toNat) false true s.flagC)
      ∧ (i.form = .bitHl b → ∃ t, exec i s = .next t ∧ t = { s1 with f := t.f }
        ∧ FlagsAre t (!m.getLsbD b.toNat) false true s.flagC)
      ∧ (∀ r, i.form = .resReg b r → ∃ v, exec i s = .next (s.setReg r v)
        ∧ ∀ k, v.getLsbD k = ((s.reg r).getLsbD k && decide (k ≠ b.toNat)))
      ∧ (∀ r, i.form = .setReg b r → ∃ v, exec i s = .next (s.setReg r v)
        ∧ ∀ k, v.getLsbD k = ((s.reg r).getLsbD k || decide (k = b.toNat)))
      ∧ (i.form = .resHl b → ∃ v, exec i s = .next (s2.write8 s.hl v)
        ∧ ∀ k, v.getLsbD k = (m.getLsbD k && decide (k ≠ b.toNat)))
      ∧ (i.form = .setHl b → ∃ v, exec i s = .next (s2.write8 s.hl v)
        ∧ ∀ k, v.getLsbD k = (m.getLsbD k || decide (k = b.toNat)))

/-- The jumps (R280 to R285): the target when the condition holds, and when it does not, PC and everything else as they were and
no further machine cycle. PC here already addresses the next instruction. -/
def Obligations.Jumps : Prop :=
  ∀ (i : Instr) (s : State),
    let s1 : State := { s with cycleCount := s.cycleCount + 4 }
    (∀ a, i.form = .jp a → exec i s = .next { s1 with pc := a })
      ∧ (i.form = .jpHl → exec i s = .next { s with pc := s.h ++ s.l })
      ∧ (∀ e, i.form = .jr e → exec i s = .next { s1 with pc := s.pc + e.signExtend 16 })
      ∧ (∀ cc a, i.form = .jpCond cc a → exec i s = .next (if s.cond cc then { s1 with pc := a } else s))
      ∧ (∀ cc e, i.form = .jrCond cc e →
        exec i s = .next (if s.cond cc then { s1 with pc := s.pc + e.signExtend 16 } else s))
      ∧ s.cond .nz = !s.flagZ ∧ s.cond .z = s.flagZ ∧ s.cond .nc = !s.flagC ∧ s.cond .c = s.flagC

/-- The calls and RST (R286, R287, R291): the return address is pushed as PUSH pushes a pair, after an internal cycle, and PC gets
the target; a conditional call that is not taken changes nothing. -/
def Obligations.CallsAndRestarts : Prop :=
  ∀ (i : Instr) (s : State),
    let s1 := State.quirk .push1 s.sp { s with cycleCount := s.cycleCount + 8 }
    let s2 := State.write8 { s1 with sp := s.sp - 1 } (s.sp - 1) (s.pc.extractLsb' 8 8)
    let s3 := State.quirk .push2 (s.sp - 1) { s2 with cycleCount := s.cycleCount + 12 }
    let pushed := State.write8 { s3 with sp := s.sp - 2 } (s.sp - 2) (s.pc.extractLsb' 0 8)
    (∀ a, i.form = .call a → exec i s = .next { pushed with pc := a })
      ∧ (∀ cc a, i.form = .callCond cc a → exec i s = .next (if s.cond cc then { pushed with pc := a } else s))
      ∧ (∀ y, i.form = .rst y → exec i s = .next { pushed with pc := y.setWidth 16 <<< 3 })

/-- The returns (R288 to R290): PC from the two bytes at SP, low byte first, each read after its quirk call, as POP reads a pair
(R190, R395; that the returns make the calls `pop1` and `pop2` is the spec's decision D16, log 19); RET cc spends a machine cycle
on its condition; RETI also sets IME at once and cancels a scheduled enable (decision D13, log 18). -/
def Obligations.Returns : Prop :=
  ∀ (i : Instr) (s : State),
    let popped (n : Nat) : State × Word :=
      let s1 := State.quirk .pop1 s.sp { s with cycleCount := n + 4 }
      let s2 := State.quirk .pop2 (s.sp + 1) { s1 with sp := s.sp + 1, cycleCount := n + 8 }
      ({ s2 with sp := s.sp + 2, cycleCount := n + 12 }, s2.read8 (s.sp + 1) ++ s1.read8 s.sp)
    let n := s.cycleCount
    (i.form = .ret → exec i s = .next { (popped n).1 with pc := (popped n).2 })
      ∧ (∀ cc, i.form = .retCond cc →
        exec i s = .next (if s.cond cc then { (popped (n + 4)).1 with pc := (popped (n + 4)).2 }
          else { s with cycleCount := n + 4 }))
      ∧ (i.form = .reti → exec i s = .next { (popped n).1 with pc := (popped n).2, ime := true, imeSched := .none })

/-- NOP, DI, EI, STOP and HALT, and the first byte of a prefixed instruction (R305 to R310; STOP as decided in D14, HALT's pending
test in D9, log 9, EI's slot in D11): their whole effect. HALT with IME clear and an enabled interrupt pending sets the
halt-bug marker and goes on; otherwise it halts. -/
def Obligations.SystemInstructions : Prop :=
  ∀ s : State, exec .nop s = .next s ∧ exec .stop s = .next { s with engine := .stopped }
    ∧ exec .di s = .next { s with ime := false, imeSched := .none }
    ∧ exec .ei s = .next (if s.ime = false ∧ s.imeSched = .none then { s with imeSched := .armed } else s)
    ∧ (s.ime = false ∧ s.pe ≠ 0 → exec .halt s = .next { s with haltBug := true })
    ∧ (¬ (s.ime = false ∧ s.pe ≠ 0) → exec .halt s = .next { s with engine := .halted })
    ∧ exec .prefixCb s = .next { s with engine := .fetchExtendedPrefix }

/-! ### Frames, over all instructions -/

/-- A general register that is no destination of the instruction is unchanged (the register table under R23; pairs and HL's
increment count as destinations). -/
def Obligations.FrameOfRegisters : Prop :=
  ∀ (i : Instr) (s t : State) (r : Reg8), exec i s = .next t → r ∉ writtenRegs i.form → t.reg r = s.reg r

/-- The flag summary under R26, for all instructions: a flag marked `-` is unchanged, `0` cleared, `1` set. Where no flag is
written F is unchanged. -/
def Obligations.FlagSummary : Prop :=
  ∀ (i : Instr) (s t : State), exec i s = .next t →
    (flagPolicy i.form).z.Allows s.flagZ t.flagZ ∧ (flagPolicy i.form).n.Allows s.flagN t.flagN
      ∧ (flagPolicy i.form).h.Allows s.flagH t.flagH ∧ (flagPolicy i.form).c.Allows s.flagC t.flagC
      ∧ (flagPolicy i.form = ⟨.kept, .kept, .kept, .kept⟩ → t.f = s.f)

/-- Who writes the rest of the state (R28, R29, R31 to R36): SP only the operations that name or move it; PC, beyond the bytes
read, only control transfers; IME and its slot only DI, EI and RETI; the engine's state only HALT, STOP and the prefix; the
halt-bug marker only HALT. No meaning touches the latches, the divider, the platform or the events still to come; and IE and IF
change only by a store to their addresses. -/
def Obligations.FrameOfControlState : Prop :=
  ∀ (i : Instr) (s t : State), exec i s = .next t →
    (writesSp i.form = false → t.sp = s.sp) ∧ (writesPc i.form = false → t.pc = s.pc)
      ∧ (i ≠ .di → i ≠ .reti → t.ime = s.ime) ∧ (i ≠ .di → i ≠ .ei → i ≠ .reti → t.imeSched = s.imeSched)
      ∧ (i ≠ .halt → i ≠ .stop → i ≠ .prefixCb → t.engine = s.engine) ∧ (i ≠ .halt → t.haltBug = s.haltBug)
      ∧ t.cur = s.cur ∧ t.stepIdx = s.stepIdx ∧ t.w = s.w ∧ t.z = s.z ∧ t.irqIdx = s.irqIdx ∧ t.tickDiv = s.tickDiv
      ∧ t.platform = s.platform ∧ t.inputs = s.inputs
      ∧ (Config.ieAddr ∉ storedAddrs i.form s → t.ie = s.ie) ∧ (Config.ifAddr ∉ storedAddrs i.form s → t.ifr = s.ifr)

/-- Every byte of the address space reads as before, but for the addresses the instruction stores to and, while one of its quirk
calls is armed, the sprite-attribute region (R163 to R176, R190 to R196, R394 to R396). `storedAddrs` computes the addresses by the
expressions the meanings use; it is empty for every form that stores nothing. -/
def Obligations.FrameOfMemory : Prop :=
  ∀ (i : Instr) (s t : State) (n : Nat) (a : Word), exec i s = .next t → a ∉ storedAddrs i.form s →
    (inOam a = false ∨ ∀ q ∈ quirkCalls i.form s, ¬ armed s.platform q.1 q.2) → t.readAt n a = s.readAt n a
end

