-- ==== Sys2Proof/Laws/State.lean ====
section
/-! SUPPORT. One lemma for each field and each update of the state: what the update makes of the field, or that it leaves it. -/

namespace Sys2Proof.Machine

/-! ### `nextCycle` -/

@[simp] theorem State.nextCycle_a (s : State) : s.nextCycle.a = s.a := rfl
@[simp] theorem State.nextCycle_f (s : State) : s.nextCycle.f = s.f := rfl
@[simp] theorem State.nextCycle_b (s : State) : s.nextCycle.b = s.b := rfl
@[simp] theorem State.nextCycle_c (s : State) : s.nextCycle.c = s.c := rfl
@[simp] theorem State.nextCycle_d (s : State) : s.nextCycle.d = s.d := rfl
@[simp] theorem State.nextCycle_e (s : State) : s.nextCycle.e = s.e := rfl
@[simp] theorem State.nextCycle_h (s : State) : s.nextCycle.h = s.h := rfl
@[simp] theorem State.nextCycle_l (s : State) : s.nextCycle.l = s.l := rfl
@[simp] theorem State.nextCycle_sp (s : State) : s.nextCycle.sp = s.sp := rfl
@[simp] theorem State.nextCycle_pc (s : State) : s.nextCycle.pc = s.pc := rfl
@[simp] theorem State.nextCycle_ie (s : State) : s.nextCycle.ie = s.ie := rfl
@[simp] theorem State.nextCycle_ifr (s : State) : s.nextCycle.ifr = s.ifr := rfl
@[simp] theorem State.nextCycle_ime (s : State) : s.nextCycle.ime = s.ime := rfl
@[simp] theorem State.nextCycle_imeSched (s : State) : s.nextCycle.imeSched = s.imeSched := rfl
@[simp] theorem State.nextCycle_engine (s : State) : s.nextCycle.engine = s.engine := rfl
@[simp] theorem State.nextCycle_cur (s : State) : s.nextCycle.cur = s.cur := rfl
@[simp] theorem State.nextCycle_stepIdx (s : State) : s.nextCycle.stepIdx = s.stepIdx := rfl
@[simp] theorem State.nextCycle_haltBug (s : State) : s.nextCycle.haltBug = s.haltBug := rfl
@[simp] theorem State.nextCycle_w (s : State) : s.nextCycle.w = s.w := rfl
@[simp] theorem State.nextCycle_z (s : State) : s.nextCycle.z = s.z := rfl
@[simp] theorem State.nextCycle_irqIdx (s : State) : s.nextCycle.irqIdx = s.irqIdx := rfl
@[simp] theorem State.nextCycle_tickDiv (s : State) : s.nextCycle.tickDiv = s.tickDiv := rfl
@[simp] theorem State.nextCycle_cycleCount (s : State) : s.nextCycle.cycleCount = s.cycleCount + 4 := rfl
@[simp] theorem State.nextCycle_mem (s : State) : s.nextCycle.mem = s.mem := rfl
@[simp] theorem State.nextCycle_platform (s : State) : s.nextCycle.platform = s.platform := rfl
@[simp] theorem State.nextCycle_inputs (s : State) : s.nextCycle.inputs = s.inputs := rfl

/-! ### `writeF` -/

@[simp] theorem State.writeF_a (s : State) (v : Byte) : (s.writeF v).a = s.a := rfl
@[simp] theorem State.writeF_f (s : State) (v : Byte) : (s.writeF v).f = v &&& 0xF0 := rfl
@[simp] theorem State.writeF_b (s : State) (v : Byte) : (s.writeF v).b = s.b := rfl
@[simp] theorem State.writeF_c (s : State) (v : Byte) : (s.writeF v).c = s.c := rfl
@[simp] theorem State.writeF_d (s : State) (v : Byte) : (s.writeF v).d = s.d := rfl
@[simp] theorem State.writeF_e (s : State) (v : Byte) : (s.writeF v).e = s.e := rfl
@[simp] theorem State.writeF_h (s : State) (v : Byte) : (s.writeF v).h = s.h := rfl
@[simp] theorem State.writeF_l (s : State) (v : Byte) : (s.writeF v).l = s.l := rfl
@[simp] theorem State.writeF_sp (s : State) (v : Byte) : (s.writeF v).sp = s.sp := rfl
@[simp] theorem State.writeF_pc (s : State) (v : Byte) : (s.writeF v).pc = s.pc := rfl
@[simp] theorem State.writeF_ie (s : State) (v : Byte) : (s.writeF v).ie = s.ie := rfl
@[simp] theorem State.writeF_ifr (s : State) (v : Byte) : (s.writeF v).ifr = s.ifr := rfl
@[simp] theorem State.writeF_ime (s : State) (v : Byte) : (s.writeF v).ime = s.ime := rfl
@[simp] theorem State.writeF_imeSched (s : State) (v : Byte) : (s.writeF v).imeSched = s.imeSched := rfl
@[simp] theorem State.writeF_engine (s : State) (v : Byte) : (s.writeF v).engine = s.engine := rfl
@[simp] theorem State.writeF_cur (s : State) (v : Byte) : (s.writeF v).cur = s.cur := rfl
@[simp] theorem State.writeF_stepIdx (s : State) (v : Byte) : (s.writeF v).stepIdx = s.stepIdx := rfl
@[simp] theorem State.writeF_haltBug (s : State) (v : Byte) : (s.writeF v).haltBug = s.haltBug := rfl
@[simp] theorem State.writeF_w (s : State) (v : Byte) : (s.writeF v).w = s.w := rfl
@[simp] theorem State.writeF_z (s : State) (v : Byte) : (s.writeF v).z = s.z := rfl
@[simp] theorem State.writeF_irqIdx (s : State) (v : Byte) : (s.writeF v).irqIdx = s.irqIdx := rfl
@[simp] theorem State.writeF_tickDiv (s : State) (v : Byte) : (s.writeF v).tickDiv = s.tickDiv := rfl
@[simp] theorem State.writeF_cycleCount (s : State) (v : Byte) : (s.writeF v).cycleCount = s.cycleCount := rfl
@[simp] theorem State.writeF_mem (s : State) (v : Byte) : (s.writeF v).mem = s.mem := rfl
@[simp] theorem State.writeF_platform (s : State) (v : Byte) : (s.writeF v).platform = s.platform := rfl
@[simp] theorem State.writeF_inputs (s : State) (v : Byte) : (s.writeF v).inputs = s.inputs := rfl

/-! ### `setAf` -/

@[simp] theorem State.setAf_a (s : State) (v : Word) : (s.setAf v).a = hiByte v := rfl
@[simp] theorem State.setAf_f (s : State) (v : Word) : (s.setAf v).f = loByte v &&& 0xF0 := rfl
@[simp] theorem State.setAf_b (s : State) (v : Word) : (s.setAf v).b = s.b := rfl
@[simp] theorem State.setAf_c (s : State) (v : Word) : (s.setAf v).c = s.c := rfl
@[simp] theorem State.setAf_d (s : State) (v : Word) : (s.setAf v).d = s.d := rfl
@[simp] theorem State.setAf_e (s : State) (v : Word) : (s.setAf v).e = s.e := rfl
@[simp] theorem State.setAf_h (s : State) (v : Word) : (s.setAf v).h = s.h := rfl
@[simp] theorem State.setAf_l (s : State) (v : Word) : (s.setAf v).l = s.l := rfl
@[simp] theorem State.setAf_sp (s : State) (v : Word) : (s.setAf v).sp = s.sp := rfl
@[simp] theorem State.setAf_pc (s : State) (v : Word) : (s.setAf v).pc = s.pc := rfl
@[simp] theorem State.setAf_ie (s : State) (v : Word) : (s.setAf v).ie = s.ie := rfl
@[simp] theorem State.setAf_ifr (s : State) (v : Word) : (s.setAf v).ifr = s.ifr := rfl
@[simp] theorem State.setAf_ime (s : State) (v : Word) : (s.setAf v).ime = s.ime := rfl
@[simp] theorem State.setAf_imeSched (s : State) (v : Word) : (s.setAf v).imeSched = s.imeSched := rfl
@[simp] theorem State.setAf_engine (s : State) (v : Word) : (s.setAf v).engine = s.engine := rfl
@[simp] theorem State.setAf_cur (s : State) (v : Word) : (s.setAf v).cur = s.cur := rfl
@[simp] theorem State.setAf_stepIdx (s : State) (v : Word) : (s.setAf v).stepIdx = s.stepIdx := rfl
@[simp] theorem State.setAf_haltBug (s : State) (v : Word) : (s.setAf v).haltBug = s.haltBug := rfl
@[simp] theorem State.setAf_w (s : State) (v : Word) : (s.setAf v).w = s.w := rfl
@[simp] theorem State.setAf_z (s : State) (v : Word) : (s.setAf v).z = s.z := rfl
@[simp] theorem State.setAf_irqIdx (s : State) (v : Word) : (s.setAf v).irqIdx = s.irqIdx := rfl
@[simp] theorem State.setAf_tickDiv (s : State) (v : Word) : (s.setAf v).tickDiv = s.tickDiv := rfl
@[simp] theorem State.setAf_cycleCount (s : State) (v : Word) : (s.setAf v).cycleCount = s.cycleCount := rfl
@[simp] theorem State.setAf_mem (s : State) (v : Word) : (s.setAf v).mem = s.mem := rfl
@[simp] theorem State.setAf_platform (s : State) (v : Word) : (s.setAf v).platform = s.platform := rfl
@[simp] theorem State.setAf_inputs (s : State) (v : Word) : (s.setAf v).inputs = s.inputs := rfl

/-! ### `setBc` -/

@[simp] theorem State.setBc_a (s : State) (v : Word) : (s.setBc v).a = s.a := rfl
@[simp] theorem State.setBc_f (s : State) (v : Word) : (s.setBc v).f = s.f := rfl
@[simp] theorem State.setBc_b (s : State) (v : Word) : (s.setBc v).b = hiByte v := rfl
@[simp] theorem State.setBc_c (s : State) (v : Word) : (s.setBc v).c = loByte v := rfl
@[simp] theorem State.setBc_d (s : State) (v : Word) : (s.setBc v).d = s.d := rfl
@[simp] theorem State.setBc_e (s : State) (v : Word) : (s.setBc v).e = s.e := rfl
@[simp] theorem State.setBc_h (s : State) (v : Word) : (s.setBc v).h = s.h := rfl
@[simp] theorem State.setBc_l (s : State) (v : Word) : (s.setBc v).l = s.l := rfl
@[simp] theorem State.setBc_sp (s : State) (v : Word) : (s.setBc v).sp = s.sp := rfl
@[simp] theorem State.setBc_pc (s : State) (v : Word) : (s.setBc v).pc = s.pc := rfl
@[simp] theorem State.setBc_ie (s : State) (v : Word) : (s.setBc v).ie = s.ie := rfl
@[simp] theorem State.setBc_ifr (s : State) (v : Word) : (s.setBc v).ifr = s.ifr := rfl
@[simp] theorem State.setBc_ime (s : State) (v : Word) : (s.setBc v).ime = s.ime := rfl
@[simp] theorem State.setBc_imeSched (s : State) (v : Word) : (s.setBc v).imeSched = s.imeSched := rfl
@[simp] theorem State.setBc_engine (s : State) (v : Word) : (s.setBc v).engine = s.engine := rfl
@[simp] theorem State.setBc_cur (s : State) (v : Word) : (s.setBc v).cur = s.cur := rfl
@[simp] theorem State.setBc_stepIdx (s : State) (v : Word) : (s.setBc v).stepIdx = s.stepIdx := rfl
@[simp] theorem State.setBc_haltBug (s : State) (v : Word) : (s.setBc v).haltBug = s.haltBug := rfl
@[simp] theorem State.setBc_w (s : State) (v : Word) : (s.setBc v).w = s.w := rfl
@[simp] theorem State.setBc_z (s : State) (v : Word) : (s.setBc v).z = s.z := rfl
@[simp] theorem State.setBc_irqIdx (s : State) (v : Word) : (s.setBc v).irqIdx = s.irqIdx := rfl
@[simp] theorem State.setBc_tickDiv (s : State) (v : Word) : (s.setBc v).tickDiv = s.tickDiv := rfl
@[simp] theorem State.setBc_cycleCount (s : State) (v : Word) : (s.setBc v).cycleCount = s.cycleCount := rfl
@[simp] theorem State.setBc_mem (s : State) (v : Word) : (s.setBc v).mem = s.mem := rfl
@[simp] theorem State.setBc_platform (s : State) (v : Word) : (s.setBc v).platform = s.platform := rfl
@[simp] theorem State.setBc_inputs (s : State) (v : Word) : (s.setBc v).inputs = s.inputs := rfl

/-! ### `setDe` -/

@[simp] theorem State.setDe_a (s : State) (v : Word) : (s.setDe v).a = s.a := rfl
@[simp] theorem State.setDe_f (s : State) (v : Word) : (s.setDe v).f = s.f := rfl
@[simp] theorem State.setDe_b (s : State) (v : Word) : (s.setDe v).b = s.b := rfl
@[simp] theorem State.setDe_c (s : State) (v : Word) : (s.setDe v).c = s.c := rfl
@[simp] theorem State.setDe_d (s : State) (v : Word) : (s.setDe v).d = hiByte v := rfl
@[simp] theorem State.setDe_e (s : State) (v : Word) : (s.setDe v).e = loByte v := rfl
@[simp] theorem State.setDe_h (s : State) (v : Word) : (s.setDe v).h = s.h := rfl
@[simp] theorem State.setDe_l (s : State) (v : Word) : (s.setDe v).l = s.l := rfl
@[simp] theorem State.setDe_sp (s : State) (v : Word) : (s.setDe v).sp = s.sp := rfl
@[simp] theorem State.setDe_pc (s : State) (v : Word) : (s.setDe v).pc = s.pc := rfl
@[simp] theorem State.setDe_ie (s : State) (v : Word) : (s.setDe v).ie = s.ie := rfl
@[simp] theorem State.setDe_ifr (s : State) (v : Word) : (s.setDe v).ifr = s.ifr := rfl
@[simp] theorem State.setDe_ime (s : State) (v : Word) : (s.setDe v).ime = s.ime := rfl
@[simp] theorem State.setDe_imeSched (s : State) (v : Word) : (s.setDe v).imeSched = s.imeSched := rfl
@[simp] theorem State.setDe_engine (s : State) (v : Word) : (s.setDe v).engine = s.engine := rfl
@[simp] theorem State.setDe_cur (s : State) (v : Word) : (s.setDe v).cur = s.cur := rfl
@[simp] theorem State.setDe_stepIdx (s : State) (v : Word) : (s.setDe v).stepIdx = s.stepIdx := rfl
@[simp] theorem State.setDe_haltBug (s : State) (v : Word) : (s.setDe v).haltBug = s.haltBug := rfl
@[simp] theorem State.setDe_w (s : State) (v : Word) : (s.setDe v).w = s.w := rfl
@[simp] theorem State.setDe_z (s : State) (v : Word) : (s.setDe v).z = s.z := rfl
@[simp] theorem State.setDe_irqIdx (s : State) (v : Word) : (s.setDe v).irqIdx = s.irqIdx := rfl
@[simp] theorem State.setDe_tickDiv (s : State) (v : Word) : (s.setDe v).tickDiv = s.tickDiv := rfl
@[simp] theorem State.setDe_cycleCount (s : State) (v : Word) : (s.setDe v).cycleCount = s.cycleCount := rfl
@[simp] theorem State.setDe_mem (s : State) (v : Word) : (s.setDe v).mem = s.mem := rfl
@[simp] theorem State.setDe_platform (s : State) (v : Word) : (s.setDe v).platform = s.platform := rfl
@[simp] theorem State.setDe_inputs (s : State) (v : Word) : (s.setDe v).inputs = s.inputs := rfl

/-! ### `setHl` -/

@[simp] theorem State.setHl_a (s : State) (v : Word) : (s.setHl v).a = s.a := rfl
@[simp] theorem State.setHl_f (s : State) (v : Word) : (s.setHl v).f = s.f := rfl
@[simp] theorem State.setHl_b (s : State) (v : Word) : (s.setHl v).b = s.b := rfl
@[simp] theorem State.setHl_c (s : State) (v : Word) : (s.setHl v).c = s.c := rfl
@[simp] theorem State.setHl_d (s : State) (v : Word) : (s.setHl v).d = s.d := rfl
@[simp] theorem State.setHl_e (s : State) (v : Word) : (s.setHl v).e = s.e := rfl
@[simp] theorem State.setHl_h (s : State) (v : Word) : (s.setHl v).h = hiByte v := rfl
@[simp] theorem State.setHl_l (s : State) (v : Word) : (s.setHl v).l = loByte v := rfl
@[simp] theorem State.setHl_sp (s : State) (v : Word) : (s.setHl v).sp = s.sp := rfl
@[simp] theorem State.setHl_pc (s : State) (v : Word) : (s.setHl v).pc = s.pc := rfl
@[simp] theorem State.setHl_ie (s : State) (v : Word) : (s.setHl v).ie = s.ie := rfl
@[simp] theorem State.setHl_ifr (s : State) (v : Word) : (s.setHl v).ifr = s.ifr := rfl
@[simp] theorem State.setHl_ime (s : State) (v : Word) : (s.setHl v).ime = s.ime := rfl
@[simp] theorem State.setHl_imeSched (s : State) (v : Word) : (s.setHl v).imeSched = s.imeSched := rfl
@[simp] theorem State.setHl_engine (s : State) (v : Word) : (s.setHl v).engine = s.engine := rfl
@[simp] theorem State.setHl_cur (s : State) (v : Word) : (s.setHl v).cur = s.cur := rfl
@[simp] theorem State.setHl_stepIdx (s : State) (v : Word) : (s.setHl v).stepIdx = s.stepIdx := rfl
@[simp] theorem State.setHl_haltBug (s : State) (v : Word) : (s.setHl v).haltBug = s.haltBug := rfl
@[simp] theorem State.setHl_w (s : State) (v : Word) : (s.setHl v).w = s.w := rfl
@[simp] theorem State.setHl_z (s : State) (v : Word) : (s.setHl v).z = s.z := rfl
@[simp] theorem State.setHl_irqIdx (s : State) (v : Word) : (s.setHl v).irqIdx = s.irqIdx := rfl
@[simp] theorem State.setHl_tickDiv (s : State) (v : Word) : (s.setHl v).tickDiv = s.tickDiv := rfl
@[simp] theorem State.setHl_cycleCount (s : State) (v : Word) : (s.setHl v).cycleCount = s.cycleCount := rfl
@[simp] theorem State.setHl_mem (s : State) (v : Word) : (s.setHl v).mem = s.mem := rfl
@[simp] theorem State.setHl_platform (s : State) (v : Word) : (s.setHl v).platform = s.platform := rfl
@[simp] theorem State.setHl_inputs (s : State) (v : Word) : (s.setHl v).inputs = s.inputs := rfl

/-! ### `writeIE` -/

@[simp] theorem State.writeIE_a (s : State) (v : Byte) : (s.writeIE v).a = s.a := rfl
@[simp] theorem State.writeIE_f (s : State) (v : Byte) : (s.writeIE v).f = s.f := rfl
@[simp] theorem State.writeIE_b (s : State) (v : Byte) : (s.writeIE v).b = s.b := rfl
@[simp] theorem State.writeIE_c (s : State) (v : Byte) : (s.writeIE v).c = s.c := rfl
@[simp] theorem State.writeIE_d (s : State) (v : Byte) : (s.writeIE v).d = s.d := rfl
@[simp] theorem State.writeIE_e (s : State) (v : Byte) : (s.writeIE v).e = s.e := rfl
@[simp] theorem State.writeIE_h (s : State) (v : Byte) : (s.writeIE v).h = s.h := rfl
@[simp] theorem State.writeIE_l (s : State) (v : Byte) : (s.writeIE v).l = s.l := rfl
@[simp] theorem State.writeIE_sp (s : State) (v : Byte) : (s.writeIE v).sp = s.sp := rfl
@[simp] theorem State.writeIE_pc (s : State) (v : Byte) : (s.writeIE v).pc = s.pc := rfl
@[simp] theorem State.writeIE_ie (s : State) (v : Byte) : (s.writeIE v).ie = v.extractLsb' 0 5 := rfl
@[simp] theorem State.writeIE_ifr (s : State) (v : Byte) : (s.writeIE v).ifr = s.ifr := rfl
@[simp] theorem State.writeIE_ime (s : State) (v : Byte) : (s.writeIE v).ime = s.ime := rfl
@[simp] theorem State.writeIE_imeSched (s : State) (v : Byte) : (s.writeIE v).imeSched = s.imeSched := rfl
@[simp] theorem State.writeIE_engine (s : State) (v : Byte) : (s.writeIE v).engine = s.engine := rfl
@[simp] theorem State.writeIE_cur (s : State) (v : Byte) : (s.writeIE v).cur = s.cur := rfl
@[simp] theorem State.writeIE_stepIdx (s : State) (v : Byte) : (s.writeIE v).stepIdx = s.stepIdx := rfl
@[simp] theorem State.writeIE_haltBug (s : State) (v : Byte) : (s.writeIE v).haltBug = s.haltBug := rfl
@[simp] theorem State.writeIE_w (s : State) (v : Byte) : (s.writeIE v).w = s.w := rfl
@[simp] theorem State.writeIE_z (s : State) (v : Byte) : (s.writeIE v).z = s.z := rfl
@[simp] theorem State.writeIE_irqIdx (s : State) (v : Byte) : (s.writeIE v).irqIdx = s.irqIdx := rfl
@[simp] theorem State.writeIE_tickDiv (s : State) (v : Byte) : (s.writeIE v).tickDiv = s.tickDiv := rfl
@[simp] theorem State.writeIE_cycleCount (s : State) (v : Byte) : (s.writeIE v).cycleCount = s.cycleCount := rfl
@[simp] theorem State.writeIE_mem (s : State) (v : Byte) : (s.writeIE v).mem = s.mem := rfl
@[simp] theorem State.writeIE_platform (s : State) (v : Byte) : (s.writeIE v).platform = s.platform := rfl
@[simp] theorem State.writeIE_inputs (s : State) (v : Byte) : (s.writeIE v).inputs = s.inputs := rfl

/-! ### `writeIF` -/

@[simp] theorem State.writeIF_a (s : State) (v : Byte) : (s.writeIF v).a = s.a := rfl
@[simp] theorem State.writeIF_f (s : State) (v : Byte) : (s.writeIF v).f = s.f := rfl
@[simp] theorem State.writeIF_b (s : State) (v : Byte) : (s.writeIF v).b = s.b := rfl
@[simp] theorem State.writeIF_c (s : State) (v : Byte) : (s.writeIF v).c = s.c := rfl
@[simp] theorem State.writeIF_d (s : State) (v : Byte) : (s.writeIF v).d = s.d := rfl
@[simp] theorem State.writeIF_e (s : State) (v : Byte) : (s.writeIF v).e = s.e := rfl
@[simp] theorem State.writeIF_h (s : State) (v : Byte) : (s.writeIF v).h = s.h := rfl
@[simp] theorem State.writeIF_l (s : State) (v : Byte) : (s.writeIF v).l = s.l := rfl
@[simp] theorem State.writeIF_sp (s : State) (v : Byte) : (s.writeIF v).sp = s.sp := rfl
@[simp] theorem State.writeIF_pc (s : State) (v : Byte) : (s.writeIF v).pc = s.pc := rfl
@[simp] theorem State.writeIF_ie (s : State) (v : Byte) : (s.writeIF v).ie = s.ie := rfl
@[simp] theorem State.writeIF_ifr (s : State) (v : Byte) : (s.writeIF v).ifr = v.extractLsb' 0 5 := rfl
@[simp] theorem State.writeIF_ime (s : State) (v : Byte) : (s.writeIF v).ime = s.ime := rfl
@[simp] theorem State.writeIF_imeSched (s : State) (v : Byte) : (s.writeIF v).imeSched = s.imeSched := rfl
@[simp] theorem State.writeIF_engine (s : State) (v : Byte) : (s.writeIF v).engine = s.engine := rfl
@[simp] theorem State.writeIF_cur (s : State) (v : Byte) : (s.writeIF v).cur = s.cur := rfl
@[simp] theorem State.writeIF_stepIdx (s : State) (v : Byte) : (s.writeIF v).stepIdx = s.stepIdx := rfl
@[simp] theorem State.writeIF_haltBug (s : State) (v : Byte) : (s.writeIF v).haltBug = s.haltBug := rfl
@[simp] theorem State.writeIF_w (s : State) (v : Byte) : (s.writeIF v).w = s.w := rfl
@[simp] theorem State.writeIF_z (s : State) (v : Byte) : (s.writeIF v).z = s.z := rfl
@[simp] theorem State.writeIF_irqIdx (s : State) (v : Byte) : (s.writeIF v).irqIdx = s.irqIdx := rfl
@[simp] theorem State.writeIF_tickDiv (s : State) (v : Byte) : (s.writeIF v).tickDiv = s.tickDiv := rfl
@[simp] theorem State.writeIF_cycleCount (s : State) (v : Byte) : (s.writeIF v).cycleCount = s.cycleCount := rfl
@[simp] theorem State.writeIF_mem (s : State) (v : Byte) : (s.writeIF v).mem = s.mem := rfl
@[simp] theorem State.writeIF_platform (s : State) (v : Byte) : (s.writeIF v).platform = s.platform := rfl
@[simp] theorem State.writeIF_inputs (s : State) (v : Byte) : (s.writeIF v).inputs = s.inputs := rfl

/-! ### `requestInterrupt` -/

@[simp] theorem State.requestInterrupt_a (s : State) (k : Irq) : (s.requestInterrupt k).a = s.a := rfl
@[simp] theorem State.requestInterrupt_f (s : State) (k : Irq) : (s.requestInterrupt k).f = s.f := rfl
@[simp] theorem State.requestInterrupt_b (s : State) (k : Irq) : (s.requestInterrupt k).b = s.b := rfl
@[simp] theorem State.requestInterrupt_c (s : State) (k : Irq) : (s.requestInterrupt k).c = s.c := rfl
@[simp] theorem State.requestInterrupt_d (s : State) (k : Irq) : (s.requestInterrupt k).d = s.d := rfl
@[simp] theorem State.requestInterrupt_e (s : State) (k : Irq) : (s.requestInterrupt k).e = s.e := rfl
@[simp] theorem State.requestInterrupt_h (s : State) (k : Irq) : (s.requestInterrupt k).h = s.h := rfl
@[simp] theorem State.requestInterrupt_l (s : State) (k : Irq) : (s.requestInterrupt k).l = s.l := rfl
@[simp] theorem State.requestInterrupt_sp (s : State) (k : Irq) : (s.requestInterrupt k).sp = s.sp := rfl
@[simp] theorem State.requestInterrupt_pc (s : State) (k : Irq) : (s.requestInterrupt k).pc = s.pc := rfl
@[simp] theorem State.requestInterrupt_ie (s : State) (k : Irq) : (s.requestInterrupt k).ie = s.ie := rfl
@[simp] theorem State.requestInterrupt_ifr (s : State) (k : Irq) : (s.requestInterrupt k).ifr = s.ifr ||| irqMask k := rfl
@[simp] theorem State.requestInterrupt_ime (s : State) (k : Irq) : (s.requestInterrupt k).ime = s.ime := rfl
@[simp] theorem State.requestInterrupt_imeSched (s : State) (k : Irq) : (s.requestInterrupt k).imeSched = s.imeSched := rfl
@[simp] theorem State.requestInterrupt_engine (s : State) (k : Irq) : (s.requestInterrupt k).engine = s.engine := rfl
@[simp] theorem State.requestInterrupt_cur (s : State) (k : Irq) : (s.requestInterrupt k).cur = s.cur := rfl
@[simp] theorem State.requestInterrupt_stepIdx (s : State) (k : Irq) : (s.requestInterrupt k).stepIdx = s.stepIdx := rfl
@[simp] theorem State.requestInterrupt_haltBug (s : State) (k : Irq) : (s.requestInterrupt k).haltBug = s.haltBug := rfl
@[simp] theorem State.requestInterrupt_w (s : State) (k : Irq) : (s.requestInterrupt k).w = s.w := rfl
@[simp] theorem State.requestInterrupt_z (s : State) (k : Irq) : (s.requestInterrupt k).z = s.z := rfl
@[simp] theorem State.requestInterrupt_irqIdx (s : State) (k : Irq) : (s.requestInterrupt k).irqIdx = s.irqIdx := rfl
@[simp] theorem State.requestInterrupt_tickDiv (s : State) (k : Irq) : (s.requestInterrupt k).tickDiv = s.tickDiv := rfl
@[simp] theorem State.requestInterrupt_cycleCount (s : State) (k : Irq) : (s.requestInterrupt k).cycleCount = s.cycleCount := rfl
@[simp] theorem State.requestInterrupt_mem (s : State) (k : Irq) : (s.requestInterrupt k).mem = s.mem := rfl
@[simp] theorem State.requestInterrupt_platform (s : State) (k : Irq) : (s.requestInterrupt k).platform = s.platform := rfl
@[simp] theorem State.requestInterrupt_inputs (s : State) (k : Irq) : (s.requestInterrupt k).inputs = s.inputs := rfl

/-! ### `scheduleEnable` -/

@[simp] theorem State.scheduleEnable_a (s : State) (b : Bool) : (s.scheduleEnable b).a = s.a := by unfold State.scheduleEnable; split <;> [split <;> rfl; rfl]
@[simp] theorem State.scheduleEnable_f (s : State) (b : Bool) : (s.scheduleEnable b).f = s.f := by unfold State.scheduleEnable; split <;> [split <;> rfl; rfl]
@[simp] theorem State.scheduleEnable_b (s : State) (b : Bool) : (s.scheduleEnable b).b = s.b := by unfold State.scheduleEnable; split <;> [split <;> rfl; rfl]
@[simp] theorem State.scheduleEnable_c (s : State) (b : Bool) : (s.scheduleEnable b).c = s.c := by unfold State.scheduleEnable; split <;> [split <;> rfl; rfl]
@[simp] theorem State.scheduleEnable_d (s : State) (b : Bool) : (s.scheduleEnable b).d = s.d := by unfold State.scheduleEnable; split <;> [split <;> rfl; rfl]
@[simp] theorem State.scheduleEnable_e (s : State) (b : Bool) : (s.scheduleEnable b).e = s.e := by unfold State.scheduleEnable; split <;> [split <;> rfl; rfl]
@[simp] theorem State.scheduleEnable_h (s : State) (b : Bool) : (s.scheduleEnable b).h = s.h := by unfold State.scheduleEnable; split <;> [split <;> rfl; rfl]
@[simp] theorem State.scheduleEnable_l (s : State) (b : Bool) : (s.scheduleEnable b).l = s.l := by unfold State.scheduleEnable; split <;> [split <;> rfl; rfl]
@[simp] theorem State.scheduleEnable_sp (s : State) (b : Bool) : (s.scheduleEnable b).sp = s.sp := by unfold State.scheduleEnable; split <;> [split <;> rfl; rfl]
@[simp] theorem State.scheduleEnable_pc (s : State) (b : Bool) : (s.scheduleEnable b).pc = s.pc := by unfold State.scheduleEnable; split <;> [split <;> rfl; rfl]
@[simp] theorem State.scheduleEnable_ie (s : State) (b : Bool) : (s.scheduleEnable b).ie = s.ie := by unfold State.scheduleEnable; split <;> [split <;> rfl; rfl]
@[simp] theorem State.scheduleEnable_ifr (s : State) (b : Bool) : (s.scheduleEnable b).ifr = s.ifr := by unfold State.scheduleEnable; split <;> [split <;> rfl; rfl]
@[simp] theorem State.scheduleEnable_engine (s : State) (b : Bool) : (s.scheduleEnable b).engine = s.engine := by unfold State.scheduleEnable; split <;> [split <;> rfl; rfl]
@[simp] theorem State.scheduleEnable_cur (s : State) (b : Bool) : (s.scheduleEnable b).cur = s.cur := by unfold State.scheduleEnable; split <;> [split <;> rfl; rfl]
@[simp] theorem State.scheduleEnable_stepIdx (s : State) (b : Bool) : (s.scheduleEnable b).stepIdx = s.stepIdx := by unfold State.scheduleEnable; split <;> [split <;> rfl; rfl]
@[simp] theorem State.scheduleEnable_haltBug (s : State) (b : Bool) : (s.scheduleEnable b).haltBug = s.haltBug := by unfold State.scheduleEnable; split <;> [split <;> rfl; rfl]
@[simp] theorem State.scheduleEnable_w (s : State) (b : Bool) : (s.scheduleEnable b).w = s.w := by unfold State.scheduleEnable; split <;> [split <;> rfl; rfl]
@[simp] theorem State.scheduleEnable_z (s : State) (b : Bool) : (s.scheduleEnable b).z = s.z := by unfold State.scheduleEnable; split <;> [split <;> rfl; rfl]
@[simp] theorem State.scheduleEnable_irqIdx (s : State) (b : Bool) : (s.scheduleEnable b).irqIdx = s.irqIdx := by unfold State.scheduleEnable; split <;> [split <;> rfl; rfl]
@[simp] theorem State.scheduleEnable_tickDiv (s : State) (b : Bool) : (s.scheduleEnable b).tickDiv = s.tickDiv := by unfold State.scheduleEnable; split <;> [split <;> rfl; rfl]
@[simp] theorem State.scheduleEnable_cycleCount (s : State) (b : Bool) : (s.scheduleEnable b).cycleCount = s.cycleCount := by unfold State.scheduleEnable; split <;> [split <;> rfl; rfl]
@[simp] theorem State.scheduleEnable_mem (s : State) (b : Bool) : (s.scheduleEnable b).mem = s.mem := by unfold State.scheduleEnable; split <;> [split <;> rfl; rfl]
@[simp] theorem State.scheduleEnable_platform (s : State) (b : Bool) : (s.scheduleEnable b).platform = s.platform := by unfold State.scheduleEnable; split <;> [split <;> rfl; rfl]
@[simp] theorem State.scheduleEnable_inputs (s : State) (b : Bool) : (s.scheduleEnable b).inputs = s.inputs := by unfold State.scheduleEnable; split <;> [split <;> rfl; rfl]

/-! ### `disableImmediately` -/

@[simp] theorem State.disableImmediately_a (s : State) : s.disableImmediately.a = s.a := rfl
@[simp] theorem State.disableImmediately_f (s : State) : s.disableImmediately.f = s.f := rfl
@[simp] theorem State.disableImmediately_b (s : State) : s.disableImmediately.b = s.b := rfl
@[simp] theorem State.disableImmediately_c (s : State) : s.disableImmediately.c = s.c := rfl
@[simp] theorem State.disableImmediately_d (s : State) : s.disableImmediately.d = s.d := rfl
@[simp] theorem State.disableImmediately_e (s : State) : s.disableImmediately.e = s.e := rfl
@[simp] theorem State.disableImmediately_h (s : State) : s.disableImmediately.h = s.h := rfl
@[simp] theorem State.disableImmediately_l (s : State) : s.disableImmediately.l = s.l := rfl
@[simp] theorem State.disableImmediately_sp (s : State) : s.disableImmediately.sp = s.sp := rfl
@[simp] theorem State.disableImmediately_pc (s : State) : s.disableImmediately.pc = s.pc := rfl
@[simp] theorem State.disableImmediately_ie (s : State) : s.disableImmediately.ie = s.ie := rfl
@[simp] theorem State.disableImmediately_ifr (s : State) : s.disableImmediately.ifr = s.ifr := rfl
@[simp] theorem State.disableImmediately_ime (s : State) : s.disableImmediately.ime = false := rfl
@[simp] theorem State.disableImmediately_imeSched (s : State) : s.disableImmediately.imeSched = .none := rfl
@[simp] theorem State.disableImmediately_engine (s : State) : s.disableImmediately.engine = s.engine := rfl
@[simp] theorem State.disableImmediately_cur (s : State) : s.disableImmediately.cur = s.cur := rfl
@[simp] theorem State.disableImmediately_stepIdx (s : State) : s.disableImmediately.stepIdx = s.stepIdx := rfl
@[simp] theorem State.disableImmediately_haltBug (s : State) : s.disableImmediately.haltBug = s.haltBug := rfl
@[simp] theorem State.disableImmediately_w (s : State) : s.disableImmediately.w = s.w := rfl
@[simp] theorem State.disableImmediately_z (s : State) : s.disableImmediately.z = s.z := rfl
@[simp] theorem State.disableImmediately_irqIdx (s : State) : s.disableImmediately.irqIdx = s.irqIdx := rfl
@[simp] theorem State.disableImmediately_tickDiv (s : State) : s.disableImmediately.tickDiv = s.tickDiv := rfl
@[simp] theorem State.disableImmediately_cycleCount (s : State) : s.disableImmediately.cycleCount = s.cycleCount := rfl
@[simp] theorem State.disableImmediately_mem (s : State) : s.disableImmediately.mem = s.mem := rfl
@[simp] theorem State.disableImmediately_platform (s : State) : s.disableImmediately.platform = s.platform := rfl
@[simp] theorem State.disableImmediately_inputs (s : State) : s.disableImmediately.inputs = s.inputs := rfl

/-! ### `instructionFinished` -/

@[simp] theorem State.instructionFinished_a (s : State) : s.instructionFinished.a = s.a := by unfold State.instructionFinished; split <;> rfl
@[simp] theorem State.instructionFinished_f (s : State) : s.instructionFinished.f = s.f := by unfold State.instructionFinished; split <;> rfl
@[simp] theorem State.instructionFinished_b (s : State) : s.instructionFinished.b = s.b := by unfold State.instructionFinished; split <;> rfl
@[simp] theorem State.instructionFinished_c (s : State) : s.instructionFinished.c = s.c := by unfold State.instructionFinished; split <;> rfl
@[simp] theorem State.instructionFinished_d (s : State) : s.instructionFinished.d = s.d := by unfold State.instructionFinished; split <;> rfl
@[simp] theorem State.instructionFinished_e (s : State) : s.instructionFinished.e = s.e := by unfold State.instructionFinished; split <;> rfl
@[simp] theorem State.instructionFinished_h (s : State) : s.instructionFinished.h = s.h := by unfold State.instructionFinished; split <;> rfl
@[simp] theorem State.instructionFinished_l (s : State) : s.instructionFinished.l = s.l := by unfold State.instructionFinished; split <;> rfl
@[simp] theorem State.instructionFinished_sp (s : State) : s.instructionFinished.sp = s.sp := by unfold State.instructionFinished; split <;> rfl
@[simp] theorem State.instructionFinished_pc (s : State) : s.instructionFinished.pc = s.pc := by unfold State.instructionFinished; split <;> rfl
@[simp] theorem State.instructionFinished_ie (s : State) : s.instructionFinished.ie = s.ie := by unfold State.instructionFinished; split <;> rfl
@[simp] theorem State.instructionFinished_ifr (s : State) : s.instructionFinished.ifr = s.ifr := by unfold State.instructionFinished; split <;> rfl
@[simp] theorem State.instructionFinished_engine (s : State) : s.instructionFinished.engine = s.engine := by unfold State.instructionFinished; split <;> rfl
@[simp] theorem State.instructionFinished_cur (s : State) : s.instructionFinished.cur = s.cur := by unfold State.instructionFinished; split <;> rfl
@[simp] theorem State.instructionFinished_stepIdx (s : State) : s.instructionFinished.stepIdx = s.stepIdx := by unfold State.instructionFinished; split <;> rfl
@[simp] theorem State.instructionFinished_haltBug (s : State) : s.instructionFinished.haltBug = s.haltBug := by unfold State.instructionFinished; split <;> rfl
@[simp] theorem State.instructionFinished_w (s : State) : s.instructionFinished.w = s.w := by unfold State.instructionFinished; split <;> rfl
@[simp] theorem State.instructionFinished_z (s : State) : s.instructionFinished.z = s.z := by unfold State.instructionFinished; split <;> rfl
@[simp] theorem State.instructionFinished_irqIdx (s : State) : s.instructionFinished.irqIdx = s.irqIdx := by unfold State.instructionFinished; split <;> rfl
@[simp] theorem State.instructionFinished_tickDiv (s : State) : s.instructionFinished.tickDiv = s.tickDiv := by unfold State.instructionFinished; split <;> rfl
@[simp] theorem State.instructionFinished_cycleCount (s : State) : s.instructionFinished.cycleCount = s.cycleCount := by unfold State.instructionFinished; split <;> rfl
@[simp] theorem State.instructionFinished_mem (s : State) : s.instructionFinished.mem = s.mem := by unfold State.instructionFinished; split <;> rfl
@[simp] theorem State.instructionFinished_platform (s : State) : s.instructionFinished.platform = s.platform := by unfold State.instructionFinished; split <;> rfl
@[simp] theorem State.instructionFinished_inputs (s : State) : s.instructionFinished.inputs = s.inputs := by unfold State.instructionFinished; split <;> rfl

/-! ### `write8` -/

@[simp] theorem State.write8_a (s : State) (a : Word) (v : Byte) : (s.write8 a v).a = s.a := by unfold State.write8; split <;> [rfl; split <;> rfl]
@[simp] theorem State.write8_f (s : State) (a : Word) (v : Byte) : (s.write8 a v).f = s.f := by unfold State.write8; split <;> [rfl; split <;> rfl]
@[simp] theorem State.write8_b (s : State) (a : Word) (v : Byte) : (s.write8 a v).b = s.b := by unfold State.write8; split <;> [rfl; split <;> rfl]
@[simp] theorem State.write8_c (s : State) (a : Word) (v : Byte) : (s.write8 a v).c = s.c := by unfold State.write8; split <;> [rfl; split <;> rfl]
@[simp] theorem State.write8_d (s : State) (a : Word) (v : Byte) : (s.write8 a v).d = s.d := by unfold State.write8; split <;> [rfl; split <;> rfl]
@[simp] theorem State.write8_e (s : State) (a : Word) (v : Byte) : (s.write8 a v).e = s.e := by unfold State.write8; split <;> [rfl; split <;> rfl]
@[simp] theorem State.write8_h (s : State) (a : Word) (v : Byte) : (s.write8 a v).h = s.h := by unfold State.write8; split <;> [rfl; split <;> rfl]
@[simp] theorem State.write8_l (s : State) (a : Word) (v : Byte) : (s.write8 a v).l = s.l := by unfold State.write8; split <;> [rfl; split <;> rfl]
@[simp] theorem State.write8_sp (s : State) (a : Word) (v : Byte) : (s.write8 a v).sp = s.sp := by unfold State.write8; split <;> [rfl; split <;> rfl]
@[simp] theorem State.write8_pc (s : State) (a : Word) (v : Byte) : (s.write8 a v).pc = s.pc := by unfold State.write8; split <;> [rfl; split <;> rfl]
@[simp] theorem State.write8_ime (s : State) (a : Word) (v : Byte) : (s.write8 a v).ime = s.ime := by unfold State.write8; split <;> [rfl; split <;> rfl]
@[simp] theorem State.write8_imeSched (s : State) (a : Word) (v : Byte) : (s.write8 a v).imeSched = s.imeSched := by unfold State.write8; split <;> [rfl; split <;> rfl]
@[simp] theorem State.write8_engine (s : State) (a : Word) (v : Byte) : (s.write8 a v).engine = s.engine := by unfold State.write8; split <;> [rfl; split <;> rfl]
@[simp] theorem State.write8_cur (s : State) (a : Word) (v : Byte) : (s.write8 a v).cur = s.cur := by unfold State.write8; split <;> [rfl; split <;> rfl]
@[simp] theorem State.write8_stepIdx (s : State) (a : Word) (v : Byte) : (s.write8 a v).stepIdx = s.stepIdx := by unfold State.write8; split <;> [rfl; split <;> rfl]
@[simp] theorem State.write8_haltBug (s : State) (a : Word) (v : Byte) : (s.write8 a v).haltBug = s.haltBug := by unfold State.write8; split <;> [rfl; split <;> rfl]
@[simp] theorem State.write8_w (s : State) (a : Word) (v : Byte) : (s.write8 a v).w = s.w := by unfold State.write8; split <;> [rfl; split <;> rfl]
@[simp] theorem State.write8_z (s : State) (a : Word) (v : Byte) : (s.write8 a v).z = s.z := by unfold State.write8; split <;> [rfl; split <;> rfl]
@[simp] theorem State.write8_irqIdx (s : State) (a : Word) (v : Byte) : (s.write8 a v).irqIdx = s.irqIdx := by unfold State.write8; split <;> [rfl; split <;> rfl]
@[simp] theorem State.write8_tickDiv (s : State) (a : Word) (v : Byte) : (s.write8 a v).tickDiv = s.tickDiv := by unfold State.write8; split <;> [rfl; split <;> rfl]
@[simp] theorem State.write8_cycleCount (s : State) (a : Word) (v : Byte) : (s.write8 a v).cycleCount = s.cycleCount := by unfold State.write8; split <;> [rfl; split <;> rfl]
@[simp] theorem State.write8_platform (s : State) (a : Word) (v : Byte) : (s.write8 a v).platform = s.platform := by unfold State.write8; split <;> [rfl; split <;> rfl]
@[simp] theorem State.write8_inputs (s : State) (a : Word) (v : Byte) : (s.write8 a v).inputs = s.inputs := by unfold State.write8; split <;> [rfl; split <;> rfl]

/-! ### `quirk` -/

@[simp] theorem State.quirk_a (s : State) (tag : QuirkTag) (a : Word) : (s.quirk tag a).a = s.a := by unfold State.quirk; split <;> [split <;> rfl; rfl]
@[simp] theorem State.quirk_f (s : State) (tag : QuirkTag) (a : Word) : (s.quirk tag a).f = s.f := by unfold State.quirk; split <;> [split <;> rfl; rfl]
@[simp] theorem State.quirk_b (s : State) (tag : QuirkTag) (a : Word) : (s.quirk tag a).b = s.b := by unfold State.quirk; split <;> [split <;> rfl; rfl]
@[simp] theorem State.quirk_c (s : State) (tag : QuirkTag) (a : Word) : (s.quirk tag a).c = s.c := by unfold State.quirk; split <;> [split <;> rfl; rfl]
@[simp] theorem State.quirk_d (s : State) (tag : QuirkTag) (a : Word) : (s.quirk tag a).d = s.d := by unfold State.quirk; split <;> [split <;> rfl; rfl]
@[simp] theorem State.quirk_e (s : State) (tag : QuirkTag) (a : Word) : (s.quirk tag a).e = s.e := by unfold State.quirk; split <;> [split <;> rfl; rfl]
@[simp] theorem State.quirk_h (s : State) (tag : QuirkTag) (a : Word) : (s.quirk tag a).h = s.h := by unfold State.quirk; split <;> [split <;> rfl; rfl]
@[simp] theorem State.quirk_l (s : State) (tag : QuirkTag) (a : Word) : (s.quirk tag a).l = s.l := by unfold State.quirk; split <;> [split <;> rfl; rfl]
@[simp] theorem State.quirk_sp (s : State) (tag : QuirkTag) (a : Word) : (s.quirk tag a).sp = s.sp := by unfold State.quirk; split <;> [split <;> rfl; rfl]
@[simp] theorem State.quirk_pc (s : State) (tag : QuirkTag) (a : Word) : (s.quirk tag a).pc = s.pc := by unfold State.quirk; split <;> [split <;> rfl; rfl]
@[simp] theorem State.quirk_ie (s : State) (tag : QuirkTag) (a : Word) : (s.quirk tag a).ie = s.ie := by unfold State.quirk; split <;> [split <;> rfl; rfl]
@[simp] theorem State.quirk_ifr (s : State) (tag : QuirkTag) (a : Word) : (s.quirk tag a).ifr = s.ifr := by unfold State.quirk; split <;> [split <;> rfl; rfl]
@[simp] theorem State.quirk_ime (s : State) (tag : QuirkTag) (a : Word) : (s.quirk tag a).ime = s.ime := by unfold State.quirk; split <;> [split <;> rfl; rfl]
@[simp] theorem State.quirk_imeSched (s : State) (tag : QuirkTag) (a : Word) : (s.quirk tag a).imeSched = s.imeSched := by unfold State.quirk; split <;> [split <;> rfl; rfl]
@[simp] theorem State.quirk_engine (s : State) (tag : QuirkTag) (a : Word) : (s.quirk tag a).engine = s.engine := by unfold State.quirk; split <;> [split <;> rfl; rfl]
@[simp] theorem State.quirk_cur (s : State) (tag : QuirkTag) (a : Word) : (s.quirk tag a).cur = s.cur := by unfold State.quirk; split <;> [split <;> rfl; rfl]
@[simp] theorem State.quirk_stepIdx (s : State) (tag : QuirkTag) (a : Word) : (s.quirk tag a).stepIdx = s.stepIdx := by unfold State.quirk; split <;> [split <;> rfl; rfl]
@[simp] theorem State.quirk_haltBug (s : State) (tag : QuirkTag) (a : Word) : (s.quirk tag a).haltBug = s.haltBug := by unfold State.quirk; split <;> [split <;> rfl; rfl]
@[simp] theorem State.quirk_w (s : State) (tag : QuirkTag) (a : Word) : (s.quirk tag a).w = s.w := by unfold State.quirk; split <;> [split <;> rfl; rfl]
@[simp] theorem State.quirk_z (s : State) (tag : QuirkTag) (a : Word) : (s.quirk tag a).z = s.z := by unfold State.quirk; split <;> [split <;> rfl; rfl]
@[simp] theorem State.quirk_irqIdx (s : State) (tag : QuirkTag) (a : Word) : (s.quirk tag a).irqIdx = s.irqIdx := by unfold State.quirk; split <;> [split <;> rfl; rfl]
@[simp] theorem State.quirk_tickDiv (s : State) (tag : QuirkTag) (a : Word) : (s.quirk tag a).tickDiv = s.tickDiv := by unfold State.quirk; split <;> [split <;> rfl; rfl]
@[simp] theorem State.quirk_cycleCount (s : State) (tag : QuirkTag) (a : Word) : (s.quirk tag a).cycleCount = s.cycleCount := by unfold State.quirk; split <;> [split <;> rfl; rfl]
@[simp] theorem State.quirk_platform (s : State) (tag : QuirkTag) (a : Word) : (s.quirk tag a).platform = s.platform := by unfold State.quirk; split <;> [split <;> rfl; rfl]
@[simp] theorem State.quirk_inputs (s : State) (tag : QuirkTag) (a : Word) : (s.quirk tag a).inputs = s.inputs := by unfold State.quirk; split <;> [split <;> rfl; rfl]

/-! ### `pushByte` -/

@[simp] theorem State.pushByte_a (s : State) (tag : QuirkTag) (v : Byte) : (s.pushByte tag v).a = s.a := by simp [State.pushByte]
@[simp] theorem State.pushByte_f (s : State) (tag : QuirkTag) (v : Byte) : (s.pushByte tag v).f = s.f := by simp [State.pushByte]
@[simp] theorem State.pushByte_b (s : State) (tag : QuirkTag) (v : Byte) : (s.pushByte tag v).b = s.b := by simp [State.pushByte]
@[simp] theorem State.pushByte_c (s : State) (tag : QuirkTag) (v : Byte) : (s.pushByte tag v).c = s.c := by simp [State.pushByte]
@[simp] theorem State.pushByte_d (s : State) (tag : QuirkTag) (v : Byte) : (s.pushByte tag v).d = s.d := by simp [State.pushByte]
@[simp] theorem State.pushByte_e (s : State) (tag : QuirkTag) (v : Byte) : (s.pushByte tag v).e = s.e := by simp [State.pushByte]
@[simp] theorem State.pushByte_h (s : State) (tag : QuirkTag) (v : Byte) : (s.pushByte tag v).h = s.h := by simp [State.pushByte]
@[simp] theorem State.pushByte_l (s : State) (tag : QuirkTag) (v : Byte) : (s.pushByte tag v).l = s.l := by simp [State.pushByte]
@[simp] theorem State.pushByte_sp (s : State) (tag : QuirkTag) (v : Byte) : (s.pushByte tag v).sp = s.sp - 1 := by simp [State.pushByte]
@[simp] theorem State.pushByte_pc (s : State) (tag : QuirkTag) (v : Byte) : (s.pushByte tag v).pc = s.pc := by simp [State.pushByte]
@[simp] theorem State.pushByte_ime (s : State) (tag : QuirkTag) (v : Byte) : (s.pushByte tag v).ime = s.ime := by simp [State.pushByte]
@[simp] theorem State.pushByte_imeSched (s : State) (tag : QuirkTag) (v : Byte) : (s.pushByte tag v).imeSched = s.imeSched := by simp [State.pushByte]
@[simp] theorem State.pushByte_engine (s : State) (tag : QuirkTag) (v : Byte) : (s.pushByte tag v).engine = s.engine := by simp [State.pushByte]
@[simp] theorem State.pushByte_cur (s : State) (tag : QuirkTag) (v : Byte) : (s.pushByte tag v).cur = s.cur := by simp [State.pushByte]
@[simp] theorem State.pushByte_stepIdx (s : State) (tag : QuirkTag) (v : Byte) : (s.pushByte tag v).stepIdx = s.stepIdx := by simp [State.pushByte]
@[simp] theorem State.pushByte_haltBug (s : State) (tag : QuirkTag) (v : Byte) : (s.pushByte tag v).haltBug = s.haltBug := by simp [State.pushByte]
@[simp] theorem State.pushByte_w (s : State) (tag : QuirkTag) (v : Byte) : (s.pushByte tag v).w = s.w := by simp [State.pushByte]
@[simp] theorem State.pushByte_z (s : State) (tag : QuirkTag) (v : Byte) : (s.pushByte tag v).z = s.z := by simp [State.pushByte]
@[simp] theorem State.pushByte_irqIdx (s : State) (tag : QuirkTag) (v : Byte) : (s.pushByte tag v).irqIdx = s.irqIdx := by simp [State.pushByte]
@[simp] theorem State.pushByte_tickDiv (s : State) (tag : QuirkTag) (v : Byte) : (s.pushByte tag v).tickDiv = s.tickDiv := by simp [State.pushByte]
@[simp] theorem State.pushByte_cycleCount (s : State) (tag : QuirkTag) (v : Byte) : (s.pushByte tag v).cycleCount = s.cycleCount := by simp [State.pushByte]
@[simp] theorem State.pushByte_platform (s : State) (tag : QuirkTag) (v : Byte) : (s.pushByte tag v).platform = s.platform := by simp [State.pushByte]
@[simp] theorem State.pushByte_inputs (s : State) (tag : QuirkTag) (v : Byte) : (s.pushByte tag v).inputs = s.inputs := by simp [State.pushByte]

/-! ### `pushHi` -/

@[simp] theorem State.pushHi_a (s : State) (v : Word) : (s.pushHi v).a = s.a := by simp [State.pushHi]
@[simp] theorem State.pushHi_f (s : State) (v : Word) : (s.pushHi v).f = s.f := by simp [State.pushHi]
@[simp] theorem State.pushHi_b (s : State) (v : Word) : (s.pushHi v).b = s.b := by simp [State.pushHi]
@[simp] theorem State.pushHi_c (s : State) (v : Word) : (s.pushHi v).c = s.c := by simp [State.pushHi]
@[simp] theorem State.pushHi_d (s : State) (v : Word) : (s.pushHi v).d = s.d := by simp [State.pushHi]
@[simp] theorem State.pushHi_e (s : State) (v : Word) : (s.pushHi v).e = s.e := by simp [State.pushHi]
@[simp] theorem State.pushHi_h (s : State) (v : Word) : (s.pushHi v).h = s.h := by simp [State.pushHi]
@[simp] theorem State.pushHi_l (s : State) (v : Word) : (s.pushHi v).l = s.l := by simp [State.pushHi]
@[simp] theorem State.pushHi_sp (s : State) (v : Word) : (s.pushHi v).sp = s.sp - 1 := by simp [State.pushHi]
@[simp] theorem State.pushHi_pc (s : State) (v : Word) : (s.pushHi v).pc = s.pc := by simp [State.pushHi]
@[simp] theorem State.pushHi_ime (s : State) (v : Word) : (s.pushHi v).ime = s.ime := by simp [State.pushHi]
@[simp] theorem State.pushHi_imeSched (s : State) (v : Word) : (s.pushHi v).imeSched = s.imeSched := by simp [State.pushHi]
@[simp] theorem State.pushHi_engine (s : State) (v : Word) : (s.pushHi v).engine = s.engine := by simp [State.pushHi]
@[simp] theorem State.pushHi_cur (s : State) (v : Word) : (s.pushHi v).cur = s.cur := by simp [State.pushHi]
@[simp] theorem State.pushHi_stepIdx (s : State) (v : Word) : (s.pushHi v).stepIdx = s.stepIdx := by simp [State.pushHi]
@[simp] theorem State.pushHi_haltBug (s : State) (v : Word) : (s.pushHi v).haltBug = s.haltBug := by simp [State.pushHi]
@[simp] theorem State.pushHi_w (s : State) (v : Word) : (s.pushHi v).w = s.w := by simp [State.pushHi]
@[simp] theorem State.pushHi_z (s : State) (v : Word) : (s.pushHi v).z = s.z := by simp [State.pushHi]
@[simp] theorem State.pushHi_irqIdx (s : State) (v : Word) : (s.pushHi v).irqIdx = s.irqIdx := by simp [State.pushHi]
@[simp] theorem State.pushHi_tickDiv (s : State) (v : Word) : (s.pushHi v).tickDiv = s.tickDiv := by simp [State.pushHi]
@[simp] theorem State.pushHi_cycleCount (s : State) (v : Word) : (s.pushHi v).cycleCount = s.cycleCount := by simp [State.pushHi]
@[simp] theorem State.pushHi_platform (s : State) (v : Word) : (s.pushHi v).platform = s.platform := by simp [State.pushHi]
@[simp] theorem State.pushHi_inputs (s : State) (v : Word) : (s.pushHi v).inputs = s.inputs := by simp [State.pushHi]

/-! ### `pushLo` -/

@[simp] theorem State.pushLo_a (s : State) (v : Word) : (s.pushLo v).a = s.a := by simp [State.pushLo]
@[simp] theorem State.pushLo_f (s : State) (v : Word) : (s.pushLo v).f = s.f := by simp [State.pushLo]
@[simp] theorem State.pushLo_b (s : State) (v : Word) : (s.pushLo v).b = s.b := by simp [State.pushLo]
@[simp] theorem State.pushLo_c (s : State) (v : Word) : (s.pushLo v).c = s.c := by simp [State.pushLo]
@[simp] theorem State.pushLo_d (s : State) (v : Word) : (s.pushLo v).d = s.d := by simp [State.pushLo]
@[simp] theorem State.pushLo_e (s : State) (v : Word) : (s.pushLo v).e = s.e := by simp [State.pushLo]
@[simp] theorem State.pushLo_h (s : State) (v : Word) : (s.pushLo v).h = s.h := by simp [State.pushLo]
@[simp] theorem State.pushLo_l (s : State) (v : Word) : (s.pushLo v).l = s.l := by simp [State.pushLo]
@[simp] theorem State.pushLo_sp (s : State) (v : Word) : (s.pushLo v).sp = s.sp - 1 := by simp [State.pushLo]
@[simp] theorem State.pushLo_pc (s : State) (v : Word) : (s.pushLo v).pc = s.pc := by simp [State.pushLo]
@[simp] theorem State.pushLo_ime (s : State) (v : Word) : (s.pushLo v).ime = s.ime := by simp [State.pushLo]
@[simp] theorem State.pushLo_imeSched (s : State) (v : Word) : (s.pushLo v).imeSched = s.imeSched := by simp [State.pushLo]
@[simp] theorem State.pushLo_engine (s : State) (v : Word) : (s.pushLo v).engine = s.engine := by simp [State.pushLo]
@[simp] theorem State.pushLo_cur (s : State) (v : Word) : (s.pushLo v).cur = s.cur := by simp [State.pushLo]
@[simp] theorem State.pushLo_stepIdx (s : State) (v : Word) : (s.pushLo v).stepIdx = s.stepIdx := by simp [State.pushLo]
@[simp] theorem State.pushLo_haltBug (s : State) (v : Word) : (s.pushLo v).haltBug = s.haltBug := by simp [State.pushLo]
@[simp] theorem State.pushLo_w (s : State) (v : Word) : (s.pushLo v).w = s.w := by simp [State.pushLo]
@[simp] theorem State.pushLo_z (s : State) (v : Word) : (s.pushLo v).z = s.z := by simp [State.pushLo]
@[simp] theorem State.pushLo_irqIdx (s : State) (v : Word) : (s.pushLo v).irqIdx = s.irqIdx := by simp [State.pushLo]
@[simp] theorem State.pushLo_tickDiv (s : State) (v : Word) : (s.pushLo v).tickDiv = s.tickDiv := by simp [State.pushLo]
@[simp] theorem State.pushLo_cycleCount (s : State) (v : Word) : (s.pushLo v).cycleCount = s.cycleCount := by simp [State.pushLo]
@[simp] theorem State.pushLo_platform (s : State) (v : Word) : (s.pushLo v).platform = s.platform := by simp [State.pushLo]
@[simp] theorem State.pushLo_inputs (s : State) (v : Word) : (s.pushLo v).inputs = s.inputs := by simp [State.pushLo]

/-! ### `popNext` -/

@[simp] theorem State.popNext_a (s : State) (tag : QuirkTag) : (s.popNext tag).a = s.a := by simp [State.popNext]
@[simp] theorem State.popNext_f (s : State) (tag : QuirkTag) : (s.popNext tag).f = s.f := by simp [State.popNext]
@[simp] theorem State.popNext_b (s : State) (tag : QuirkTag) : (s.popNext tag).b = s.b := by simp [State.popNext]
@[simp] theorem State.popNext_c (s : State) (tag : QuirkTag) : (s.popNext tag).c = s.c := by simp [State.popNext]
@[simp] theorem State.popNext_d (s : State) (tag : QuirkTag) : (s.popNext tag).d = s.d := by simp [State.popNext]
@[simp] theorem State.popNext_e (s : State) (tag : QuirkTag) : (s.popNext tag).e = s.e := by simp [State.popNext]
@[simp] theorem State.popNext_h (s : State) (tag : QuirkTag) : (s.popNext tag).h = s.h := by simp [State.popNext]
@[simp] theorem State.popNext_l (s : State) (tag : QuirkTag) : (s.popNext tag).l = s.l := by simp [State.popNext]
@[simp] theorem State.popNext_sp (s : State) (tag : QuirkTag) : (s.popNext tag).sp = s.sp + 1 := by simp [State.popNext]
@[simp] theorem State.popNext_pc (s : State) (tag : QuirkTag) : (s.popNext tag).pc = s.pc := by simp [State.popNext]
@[simp] theorem State.popNext_ie (s : State) (tag : QuirkTag) : (s.popNext tag).ie = s.ie := by simp [State.popNext]
@[simp] theorem State.popNext_ifr (s : State) (tag : QuirkTag) : (s.popNext tag).ifr = s.ifr := by simp [State.popNext]
@[simp] theorem State.popNext_ime (s : State) (tag : QuirkTag) : (s.popNext tag).ime = s.ime := by simp [State.popNext]
@[simp] theorem State.popNext_imeSched (s : State) (tag : QuirkTag) : (s.popNext tag).imeSched = s.imeSched := by simp [State.popNext]
@[simp] theorem State.popNext_engine (s : State) (tag : QuirkTag) : (s.popNext tag).engine = s.engine := by simp [State.popNext]
@[simp] theorem State.popNext_cur (s : State) (tag : QuirkTag) : (s.popNext tag).cur = s.cur := by simp [State.popNext]
@[simp] theorem State.popNext_stepIdx (s : State) (tag : QuirkTag) : (s.popNext tag).stepIdx = s.stepIdx := by simp [State.popNext]
@[simp] theorem State.popNext_haltBug (s : State) (tag : QuirkTag) : (s.popNext tag).haltBug = s.haltBug := by simp [State.popNext]
@[simp] theorem State.popNext_w (s : State) (tag : QuirkTag) : (s.popNext tag).w = s.w := by simp [State.popNext]
@[simp] theorem State.popNext_z (s : State) (tag : QuirkTag) : (s.popNext tag).z = s.z := by simp [State.popNext]
@[simp] theorem State.popNext_irqIdx (s : State) (tag : QuirkTag) : (s.popNext tag).irqIdx = s.irqIdx := by simp [State.popNext]
@[simp] theorem State.popNext_tickDiv (s : State) (tag : QuirkTag) : (s.popNext tag).tickDiv = s.tickDiv := by simp [State.popNext]
@[simp] theorem State.popNext_cycleCount (s : State) (tag : QuirkTag) : (s.popNext tag).cycleCount = s.cycleCount := by simp [State.popNext]
@[simp] theorem State.popNext_platform (s : State) (tag : QuirkTag) : (s.popNext tag).platform = s.platform := by simp [State.popNext]
@[simp] theorem State.popNext_inputs (s : State) (tag : QuirkTag) : (s.popNext tag).inputs = s.inputs := by simp [State.popNext]

/-! ### `push16` -/

@[simp] theorem State.push16_a (s : State) (v : Word) : (s.push16 v).a = s.a := by simp [State.push16]
@[simp] theorem State.push16_f (s : State) (v : Word) : (s.push16 v).f = s.f := by simp [State.push16]
@[simp] theorem State.push16_b (s : State) (v : Word) : (s.push16 v).b = s.b := by simp [State.push16]
@[simp] theorem State.push16_c (s : State) (v : Word) : (s.push16 v).c = s.c := by simp [State.push16]
@[simp] theorem State.push16_d (s : State) (v : Word) : (s.push16 v).d = s.d := by simp [State.push16]
@[simp] theorem State.push16_e (s : State) (v : Word) : (s.push16 v).e = s.e := by simp [State.push16]
@[simp] theorem State.push16_h (s : State) (v : Word) : (s.push16 v).h = s.h := by simp [State.push16]
@[simp] theorem State.push16_l (s : State) (v : Word) : (s.push16 v).l = s.l := by simp [State.push16]
@[simp] theorem State.push16_sp (s : State) (v : Word) : (s.push16 v).sp = s.sp - 1 - 1 := by simp [State.push16]
@[simp] theorem State.push16_pc (s : State) (v : Word) : (s.push16 v).pc = s.pc := by simp [State.push16]
@[simp] theorem State.push16_ime (s : State) (v : Word) : (s.push16 v).ime = s.ime := by simp [State.push16]
@[simp] theorem State.push16_imeSched (s : State) (v : Word) : (s.push16 v).imeSched = s.imeSched := by simp [State.push16]
@[simp] theorem State.push16_engine (s : State) (v : Word) : (s.push16 v).engine = s.engine := by simp [State.push16]
@[simp] theorem State.push16_cur (s : State) (v : Word) : (s.push16 v).cur = s.cur := by simp [State.push16]
@[simp] theorem State.push16_stepIdx (s : State) (v : Word) : (s.push16 v).stepIdx = s.stepIdx := by simp [State.push16]
@[simp] theorem State.push16_haltBug (s : State) (v : Word) : (s.push16 v).haltBug = s.haltBug := by simp [State.push16]
@[simp] theorem State.push16_w (s : State) (v : Word) : (s.push16 v).w = s.w := by simp [State.push16]
@[simp] theorem State.push16_z (s : State) (v : Word) : (s.push16 v).z = s.z := by simp [State.push16]
@[simp] theorem State.push16_irqIdx (s : State) (v : Word) : (s.push16 v).irqIdx = s.irqIdx := by simp [State.push16]
@[simp] theorem State.push16_tickDiv (s : State) (v : Word) : (s.push16 v).tickDiv = s.tickDiv := by simp [State.push16]
@[simp] theorem State.push16_cycleCount (s : State) (v : Word) : (s.push16 v).cycleCount = s.cycleCount + 4 + 4 := by simp [State.push16]
@[simp] theorem State.push16_platform (s : State) (v : Word) : (s.push16 v).platform = s.platform := by simp [State.push16]
@[simp] theorem State.push16_inputs (s : State) (v : Word) : (s.push16 v).inputs = s.inputs := by simp [State.push16]

/-! ### `pop16Next` -/

@[simp] theorem State.pop16Next_a (s : State) : s.pop16Next.a = s.a := by simp [State.pop16Next]
@[simp] theorem State.pop16Next_f (s : State) : s.pop16Next.f = s.f := by simp [State.pop16Next]
@[simp] theorem State.pop16Next_b (s : State) : s.pop16Next.b = s.b := by simp [State.pop16Next]
@[simp] theorem State.pop16Next_c (s : State) : s.pop16Next.c = s.c := by simp [State.pop16Next]
@[simp] theorem State.pop16Next_d (s : State) : s.pop16Next.d = s.d := by simp [State.pop16Next]
@[simp] theorem State.pop16Next_e (s : State) : s.pop16Next.e = s.e := by simp [State.pop16Next]
@[simp] theorem State.pop16Next_h (s : State) : s.pop16Next.h = s.h := by simp [State.pop16Next]
@[simp] theorem State.pop16Next_l (s : State) : s.pop16Next.l = s.l := by simp [State.pop16Next]
@[simp] theorem State.pop16Next_sp (s : State) : s.pop16Next.sp = s.sp + 1 + 1 := by simp [State.pop16Next]
@[simp] theorem State.pop16Next_pc (s : State) : s.pop16Next.pc = s.pc := by simp [State.pop16Next]
@[simp] theorem State.pop16Next_ie (s : State) : s.pop16Next.ie = s.ie := by simp [State.pop16Next]
@[simp] theorem State.pop16Next_ifr (s : State) : s.pop16Next.ifr = s.ifr := by simp [State.pop16Next]
@[simp] theorem State.pop16Next_ime (s : State) : s.pop16Next.ime = s.ime := by simp [State.pop16Next]
@[simp] theorem State.pop16Next_imeSched (s : State) : s.pop16Next.imeSched = s.imeSched := by simp [State.pop16Next]
@[simp] theorem State.pop16Next_engine (s : State) : s.pop16Next.engine = s.engine := by simp [State.pop16Next]
@[simp] theorem State.pop16Next_cur (s : State) : s.pop16Next.cur = s.cur := by simp [State.pop16Next]
@[simp] theorem State.pop16Next_stepIdx (s : State) : s.pop16Next.stepIdx = s.stepIdx := by simp [State.pop16Next]
@[simp] theorem State.pop16Next_haltBug (s : State) : s.pop16Next.haltBug = s.haltBug := by simp [State.pop16Next]
@[simp] theorem State.pop16Next_w (s : State) : s.pop16Next.w = s.w := by simp [State.pop16Next]
@[simp] theorem State.pop16Next_z (s : State) : s.pop16Next.z = s.z := by simp [State.pop16Next]
@[simp] theorem State.pop16Next_irqIdx (s : State) : s.pop16Next.irqIdx = s.irqIdx := by simp [State.pop16Next]
@[simp] theorem State.pop16Next_tickDiv (s : State) : s.pop16Next.tickDiv = s.tickDiv := by simp [State.pop16Next]
@[simp] theorem State.pop16Next_cycleCount (s : State) : s.pop16Next.cycleCount = s.cycleCount + 4 + 4 := by simp [State.pop16Next]
@[simp] theorem State.pop16Next_platform (s : State) : s.pop16Next.platform = s.platform := by simp [State.pop16Next]
@[simp] theorem State.pop16Next_inputs (s : State) : s.pop16Next.inputs = s.inputs := by simp [State.pop16Next]

/-! ### `setReg` -/

@[simp] theorem State.setReg_f (s : State) (r : Reg8) (v : Byte) : (s.setReg r v).f = s.f := by cases r <;> rfl
@[simp] theorem State.setReg_sp (s : State) (r : Reg8) (v : Byte) : (s.setReg r v).sp = s.sp := by cases r <;> rfl
@[simp] theorem State.setReg_pc (s : State) (r : Reg8) (v : Byte) : (s.setReg r v).pc = s.pc := by cases r <;> rfl
@[simp] theorem State.setReg_ie (s : State) (r : Reg8) (v : Byte) : (s.setReg r v).ie = s.ie := by cases r <;> rfl
@[simp] theorem State.setReg_ifr (s : State) (r : Reg8) (v : Byte) : (s.setReg r v).ifr = s.ifr := by cases r <;> rfl
@[simp] theorem State.setReg_ime (s : State) (r : Reg8) (v : Byte) : (s.setReg r v).ime = s.ime := by cases r <;> rfl
@[simp] theorem State.setReg_imeSched (s : State) (r : Reg8) (v : Byte) : (s.setReg r v).imeSched = s.imeSched := by cases r <;> rfl
@[simp] theorem State.setReg_engine (s : State) (r : Reg8) (v : Byte) : (s.setReg r v).engine = s.engine := by cases r <;> rfl
@[simp] theorem State.setReg_cur (s : State) (r : Reg8) (v : Byte) : (s.setReg r v).cur = s.cur := by cases r <;> rfl
@[simp] theorem State.setReg_stepIdx (s : State) (r : Reg8) (v : Byte) : (s.setReg r v).stepIdx = s.stepIdx := by cases r <;> rfl
@[simp] theorem State.setReg_haltBug (s : State) (r : Reg8) (v : Byte) : (s.setReg r v).haltBug = s.haltBug := by cases r <;> rfl
@[simp] theorem State.setReg_w (s : State) (r : Reg8) (v : Byte) : (s.setReg r v).w = s.w := by cases r <;> rfl
@[simp] theorem State.setReg_z (s : State) (r : Reg8) (v : Byte) : (s.setReg r v).z = s.z := by cases r <;> rfl
@[simp] theorem State.setReg_irqIdx (s : State) (r : Reg8) (v : Byte) : (s.setReg r v).irqIdx = s.irqIdx := by cases r <;> rfl
@[simp] theorem State.setReg_tickDiv (s : State) (r : Reg8) (v : Byte) : (s.setReg r v).tickDiv = s.tickDiv := by cases r <;> rfl
@[simp] theorem State.setReg_cycleCount (s : State) (r : Reg8) (v : Byte) : (s.setReg r v).cycleCount = s.cycleCount := by cases r <;> rfl
@[simp] theorem State.setReg_mem (s : State) (r : Reg8) (v : Byte) : (s.setReg r v).mem = s.mem := by cases r <;> rfl
@[simp] theorem State.setReg_platform (s : State) (r : Reg8) (v : Byte) : (s.setReg r v).platform = s.platform := by cases r <;> rfl
@[simp] theorem State.setReg_inputs (s : State) (r : Reg8) (v : Byte) : (s.setReg r v).inputs = s.inputs := by cases r <;> rfl

/-! ### `setPair` -/

@[simp] theorem State.setPair_a (s : State) (rr : Reg16) (v : Word) : (s.setPair rr v).a = s.a := by cases rr <;> rfl
@[simp] theorem State.setPair_f (s : State) (rr : Reg16) (v : Word) : (s.setPair rr v).f = s.f := by cases rr <;> rfl
@[simp] theorem State.setPair_pc (s : State) (rr : Reg16) (v : Word) : (s.setPair rr v).pc = s.pc := by cases rr <;> rfl
@[simp] theorem State.setPair_ie (s : State) (rr : Reg16) (v : Word) : (s.setPair rr v).ie = s.ie := by cases rr <;> rfl
@[simp] theorem State.setPair_ifr (s : State) (rr : Reg16) (v : Word) : (s.setPair rr v).ifr = s.ifr := by cases rr <;> rfl
@[simp] theorem State.setPair_ime (s : State) (rr : Reg16) (v : Word) : (s.setPair rr v).ime = s.ime := by cases rr <;> rfl
@[simp] theorem State.setPair_imeSched (s : State) (rr : Reg16) (v : Word) : (s.setPair rr v).imeSched = s.imeSched := by cases rr <;> rfl
@[simp] theorem State.setPair_engine (s : State) (rr : Reg16) (v : Word) : (s.setPair rr v).engine = s.engine := by cases rr <;> rfl
@[simp] theorem State.setPair_cur (s : State) (rr : Reg16) (v : Word) : (s.setPair rr v).cur = s.cur := by cases rr <;> rfl
@[simp] theorem State.setPair_stepIdx (s : State) (rr : Reg16) (v : Word) : (s.setPair rr v).stepIdx = s.stepIdx := by cases rr <;> rfl
@[simp] theorem State.setPair_haltBug (s : State) (rr : Reg16) (v : Word) : (s.setPair rr v).haltBug = s.haltBug := by cases rr <;> rfl
@[simp] theorem State.setPair_w (s : State) (rr : Reg16) (v : Word) : (s.setPair rr v).w = s.w := by cases rr <;> rfl
@[simp] theorem State.setPair_z (s : State) (rr : Reg16) (v : Word) : (s.setPair rr v).z = s.z := by cases rr <;> rfl
@[simp] theorem State.setPair_irqIdx (s : State) (rr : Reg16) (v : Word) : (s.setPair rr v).irqIdx = s.irqIdx := by cases rr <;> rfl
@[simp] theorem State.setPair_tickDiv (s : State) (rr : Reg16) (v : Word) : (s.setPair rr v).tickDiv = s.tickDiv := by cases rr <;> rfl
@[simp] theorem State.setPair_cycleCount (s : State) (rr : Reg16) (v : Word) : (s.setPair rr v).cycleCount = s.cycleCount := by cases rr <;> rfl
@[simp] theorem State.setPair_mem (s : State) (rr : Reg16) (v : Word) : (s.setPair rr v).mem = s.mem := by cases rr <;> rfl
@[simp] theorem State.setPair_platform (s : State) (rr : Reg16) (v : Word) : (s.setPair rr v).platform = s.platform := by cases rr <;> rfl
@[simp] theorem State.setPair_inputs (s : State) (rr : Reg16) (v : Word) : (s.setPair rr v).inputs = s.inputs := by cases rr <;> rfl

/-! ### `setStackPair` -/

@[simp] theorem State.setStackPair_sp (s : State) (rr : StackReg) (v : Word) : (s.setStackPair rr v).sp = s.sp := by cases rr <;> rfl
@[simp] theorem State.setStackPair_pc (s : State) (rr : StackReg) (v : Word) : (s.setStackPair rr v).pc = s.pc := by cases rr <;> rfl
@[simp] theorem State.setStackPair_ie (s : State) (rr : StackReg) (v : Word) : (s.setStackPair rr v).ie = s.ie := by cases rr <;> rfl
@[simp] theorem State.setStackPair_ifr (s : State) (rr : StackReg) (v : Word) : (s.setStackPair rr v).ifr = s.ifr := by cases rr <;> rfl
@[simp] theorem State.setStackPair_ime (s : State) (rr : StackReg) (v : Word) : (s.setStackPair rr v).ime = s.ime := by cases rr <;> rfl
@[simp] theorem State.setStackPair_imeSched (s : State) (rr : StackReg) (v : Word) : (s.setStackPair rr v).imeSched = s.imeSched := by cases rr <;> rfl
@[simp] theorem State.setStackPair_engine (s : State) (rr : StackReg) (v : Word) : (s.setStackPair rr v).engine = s.engine := by cases rr <;> rfl
@[simp] theorem State.setStackPair_cur (s : State) (rr : StackReg) (v : Word) : (s.setStackPair rr v).cur = s.cur := by cases rr <;> rfl
@[simp] theorem State.setStackPair_stepIdx (s : State) (rr : StackReg) (v : Word) : (s.setStackPair rr v).stepIdx = s.stepIdx := by cases rr <;> rfl
@[simp] theorem State.setStackPair_haltBug (s : State) (rr : StackReg) (v : Word) : (s.setStackPair rr v).haltBug = s.haltBug := by cases rr <;> rfl
@[simp] theorem State.setStackPair_w (s : State) (rr : StackReg) (v : Word) : (s.setStackPair rr v).w = s.w := by cases rr <;> rfl
@[simp] theorem State.setStackPair_z (s : State) (rr : StackReg) (v : Word) : (s.setStackPair rr v).z = s.z := by cases rr <;> rfl
@[simp] theorem State.setStackPair_irqIdx (s : State) (rr : StackReg) (v : Word) : (s.setStackPair rr v).irqIdx = s.irqIdx := by cases rr <;> rfl
@[simp] theorem State.setStackPair_tickDiv (s : State) (rr : StackReg) (v : Word) : (s.setStackPair rr v).tickDiv = s.tickDiv := by cases rr <;> rfl
@[simp] theorem State.setStackPair_cycleCount (s : State) (rr : StackReg) (v : Word) : (s.setStackPair rr v).cycleCount = s.cycleCount := by cases rr <;> rfl
@[simp] theorem State.setStackPair_mem (s : State) (rr : StackReg) (v : Word) : (s.setStackPair rr v).mem = s.mem := by cases rr <;> rfl
@[simp] theorem State.setStackPair_platform (s : State) (rr : StackReg) (v : Word) : (s.setStackPair rr v).platform = s.platform := by cases rr <;> rfl
@[simp] theorem State.setStackPair_inputs (s : State) (rr : StackReg) (v : Word) : (s.setStackPair rr v).inputs = s.inputs := by cases rr <;> rfl

/-! ### `indAfter` -/

@[simp] theorem State.indAfter_a (s : State) (p : IndPtr) : (s.indAfter p).a = s.a := by cases p <;> rfl
@[simp] theorem State.indAfter_f (s : State) (p : IndPtr) : (s.indAfter p).f = s.f := by cases p <;> rfl
@[simp] theorem State.indAfter_b (s : State) (p : IndPtr) : (s.indAfter p).b = s.b := by cases p <;> rfl
@[simp] theorem State.indAfter_c (s : State) (p : IndPtr) : (s.indAfter p).c = s.c := by cases p <;> rfl
@[simp] theorem State.indAfter_d (s : State) (p : IndPtr) : (s.indAfter p).d = s.d := by cases p <;> rfl
@[simp] theorem State.indAfter_e (s : State) (p : IndPtr) : (s.indAfter p).e = s.e := by cases p <;> rfl
@[simp] theorem State.indAfter_sp (s : State) (p : IndPtr) : (s.indAfter p).sp = s.sp := by cases p <;> rfl
@[simp] theorem State.indAfter_pc (s : State) (p : IndPtr) : (s.indAfter p).pc = s.pc := by cases p <;> rfl
@[simp] theorem State.indAfter_ie (s : State) (p : IndPtr) : (s.indAfter p).ie = s.ie := by cases p <;> rfl
@[simp] theorem State.indAfter_ifr (s : State) (p : IndPtr) : (s.indAfter p).ifr = s.ifr := by cases p <;> rfl
@[simp] theorem State.indAfter_ime (s : State) (p : IndPtr) : (s.indAfter p).ime = s.ime := by cases p <;> rfl
@[simp] theorem State.indAfter_imeSched (s : State) (p : IndPtr) : (s.indAfter p).imeSched = s.imeSched := by cases p <;> rfl
@[simp] theorem State.indAfter_engine (s : State) (p : IndPtr) : (s.indAfter p).engine = s.engine := by cases p <;> rfl
@[simp] theorem State.indAfter_cur (s : State) (p : IndPtr) : (s.indAfter p).cur = s.cur := by cases p <;> rfl
@[simp] theorem State.indAfter_stepIdx (s : State) (p : IndPtr) : (s.indAfter p).stepIdx = s.stepIdx := by cases p <;> rfl
@[simp] theorem State.indAfter_haltBug (s : State) (p : IndPtr) : (s.indAfter p).haltBug = s.haltBug := by cases p <;> rfl
@[simp] theorem State.indAfter_w (s : State) (p : IndPtr) : (s.indAfter p).w = s.w := by cases p <;> rfl
@[simp] theorem State.indAfter_z (s : State) (p : IndPtr) : (s.indAfter p).z = s.z := by cases p <;> rfl
@[simp] theorem State.indAfter_irqIdx (s : State) (p : IndPtr) : (s.indAfter p).irqIdx = s.irqIdx := by cases p <;> rfl
@[simp] theorem State.indAfter_tickDiv (s : State) (p : IndPtr) : (s.indAfter p).tickDiv = s.tickDiv := by cases p <;> rfl
@[simp] theorem State.indAfter_cycleCount (s : State) (p : IndPtr) : (s.indAfter p).cycleCount = s.cycleCount := by cases p <;> rfl
@[simp] theorem State.indAfter_mem (s : State) (p : IndPtr) : (s.indAfter p).mem = s.mem := by cases p <;> rfl
@[simp] theorem State.indAfter_platform (s : State) (p : IndPtr) : (s.indAfter p).platform = s.platform := by cases p <;> rfl
@[simp] theorem State.indAfter_inputs (s : State) (p : IndPtr) : (s.indAfter p).inputs = s.inputs := by cases p <;> rfl

/-! ### `setFlags` -/

@[simp] theorem State.setFlags_a (s : State) (x : Flags) : (s.setFlags x).a = s.a := rfl
@[simp] theorem State.setFlags_f (s : State) (x : Flags) : (s.setFlags x).f = x.pack := rfl
@[simp] theorem State.setFlags_b (s : State) (x : Flags) : (s.setFlags x).b = s.b := rfl
@[simp] theorem State.setFlags_c (s : State) (x : Flags) : (s.setFlags x).c = s.c := rfl
@[simp] theorem State.setFlags_d (s : State) (x : Flags) : (s.setFlags x).d = s.d := rfl
@[simp] theorem State.setFlags_e (s : State) (x : Flags) : (s.setFlags x).e = s.e := rfl
@[simp] theorem State.setFlags_h (s : State) (x : Flags) : (s.setFlags x).h = s.h := rfl
@[simp] theorem State.setFlags_l (s : State) (x : Flags) : (s.setFlags x).l = s.l := rfl
@[simp] theorem State.setFlags_sp (s : State) (x : Flags) : (s.setFlags x).sp = s.sp := rfl
@[simp] theorem State.setFlags_pc (s : State) (x : Flags) : (s.setFlags x).pc = s.pc := rfl
@[simp] theorem State.setFlags_ie (s : State) (x : Flags) : (s.setFlags x).ie = s.ie := rfl
@[simp] theorem State.setFlags_ifr (s : State) (x : Flags) : (s.setFlags x).ifr = s.ifr := rfl
@[simp] theorem State.setFlags_ime (s : State) (x : Flags) : (s.setFlags x).ime = s.ime := rfl
@[simp] theorem State.setFlags_imeSched (s : State) (x : Flags) : (s.setFlags x).imeSched = s.imeSched := rfl
@[simp] theorem State.setFlags_engine (s : State) (x : Flags) : (s.setFlags x).engine = s.engine := rfl
@[simp] theorem State.setFlags_cur (s : State) (x : Flags) : (s.setFlags x).cur = s.cur := rfl
@[simp] theorem State.setFlags_stepIdx (s : State) (x : Flags) : (s.setFlags x).stepIdx = s.stepIdx := rfl
@[simp] theorem State.setFlags_haltBug (s : State) (x : Flags) : (s.setFlags x).haltBug = s.haltBug := rfl
@[simp] theorem State.setFlags_w (s : State) (x : Flags) : (s.setFlags x).w = s.w := rfl
@[simp] theorem State.setFlags_z (s : State) (x : Flags) : (s.setFlags x).z = s.z := rfl
@[simp] theorem State.setFlags_irqIdx (s : State) (x : Flags) : (s.setFlags x).irqIdx = s.irqIdx := rfl
@[simp] theorem State.setFlags_tickDiv (s : State) (x : Flags) : (s.setFlags x).tickDiv = s.tickDiv := rfl
@[simp] theorem State.setFlags_cycleCount (s : State) (x : Flags) : (s.setFlags x).cycleCount = s.cycleCount := rfl
@[simp] theorem State.setFlags_mem (s : State) (x : Flags) : (s.setFlags x).mem = s.mem := rfl
@[simp] theorem State.setFlags_platform (s : State) (x : Flags) : (s.setFlags x).platform = s.platform := rfl
@[simp] theorem State.setFlags_inputs (s : State) (x : Flags) : (s.setFlags x).inputs = s.inputs := rfl

/-! ### `setFlagZ` -/

@[simp] theorem State.setFlagZ_a (s : State) (v : Bool) : (s.setFlagZ v).a = s.a := rfl
@[simp] theorem State.setFlagZ_b (s : State) (v : Bool) : (s.setFlagZ v).b = s.b := rfl
@[simp] theorem State.setFlagZ_c (s : State) (v : Bool) : (s.setFlagZ v).c = s.c := rfl
@[simp] theorem State.setFlagZ_d (s : State) (v : Bool) : (s.setFlagZ v).d = s.d := rfl
@[simp] theorem State.setFlagZ_e (s : State) (v : Bool) : (s.setFlagZ v).e = s.e := rfl
@[simp] theorem State.setFlagZ_h (s : State) (v : Bool) : (s.setFlagZ v).h = s.h := rfl
@[simp] theorem State.setFlagZ_l (s : State) (v : Bool) : (s.setFlagZ v).l = s.l := rfl
@[simp] theorem State.setFlagZ_sp (s : State) (v : Bool) : (s.setFlagZ v).sp = s.sp := rfl
@[simp] theorem State.setFlagZ_pc (s : State) (v : Bool) : (s.setFlagZ v).pc = s.pc := rfl
@[simp] theorem State.setFlagZ_ie (s : State) (v : Bool) : (s.setFlagZ v).ie = s.ie := rfl
@[simp] theorem State.setFlagZ_ifr (s : State) (v : Bool) : (s.setFlagZ v).ifr = s.ifr := rfl
@[simp] theorem State.setFlagZ_ime (s : State) (v : Bool) : (s.setFlagZ v).ime = s.ime := rfl
@[simp] theorem State.setFlagZ_imeSched (s : State) (v : Bool) : (s.setFlagZ v).imeSched = s.imeSched := rfl
@[simp] theorem State.setFlagZ_engine (s : State) (v : Bool) : (s.setFlagZ v).engine = s.engine := rfl
@[simp] theorem State.setFlagZ_cur (s : State) (v : Bool) : (s.setFlagZ v).cur = s.cur := rfl
@[simp] theorem State.setFlagZ_stepIdx (s : State) (v : Bool) : (s.setFlagZ v).stepIdx = s.stepIdx := rfl
@[simp] theorem State.setFlagZ_haltBug (s : State) (v : Bool) : (s.setFlagZ v).haltBug = s.haltBug := rfl
@[simp] theorem State.setFlagZ_w (s : State) (v : Bool) : (s.setFlagZ v).w = s.w := rfl
@[simp] theorem State.setFlagZ_z (s : State) (v : Bool) : (s.setFlagZ v).z = s.z := rfl
@[simp] theorem State.setFlagZ_irqIdx (s : State) (v : Bool) : (s.setFlagZ v).irqIdx = s.irqIdx := rfl
@[simp] theorem State.setFlagZ_tickDiv (s : State) (v : Bool) : (s.setFlagZ v).tickDiv = s.tickDiv := rfl
@[simp] theorem State.setFlagZ_cycleCount (s : State) (v : Bool) : (s.setFlagZ v).cycleCount = s.cycleCount := rfl
@[simp] theorem State.setFlagZ_mem (s : State) (v : Bool) : (s.setFlagZ v).mem = s.mem := rfl
@[simp] theorem State.setFlagZ_platform (s : State) (v : Bool) : (s.setFlagZ v).platform = s.platform := rfl
@[simp] theorem State.setFlagZ_inputs (s : State) (v : Bool) : (s.setFlagZ v).inputs = s.inputs := rfl

/-! ### `setFlagN` -/

@[simp] theorem State.setFlagN_a (s : State) (v : Bool) : (s.setFlagN v).a = s.a := rfl
@[simp] theorem State.setFlagN_b (s : State) (v : Bool) : (s.setFlagN v).b = s.b := rfl
@[simp] theorem State.setFlagN_c (s : State) (v : Bool) : (s.setFlagN v).c = s.c := rfl
@[simp] theorem State.setFlagN_d (s : State) (v : Bool) : (s.setFlagN v).d = s.d := rfl
@[simp] theorem State.setFlagN_e (s : State) (v : Bool) : (s.setFlagN v).e = s.e := rfl
@[simp] theorem State.setFlagN_h (s : State) (v : Bool) : (s.setFlagN v).h = s.h := rfl
@[simp] theorem State.setFlagN_l (s : State) (v : Bool) : (s.setFlagN v).l = s.l := rfl
@[simp] theorem State.setFlagN_sp (s : State) (v : Bool) : (s.setFlagN v).sp = s.sp := rfl
@[simp] theorem State.setFlagN_pc (s : State) (v : Bool) : (s.setFlagN v).pc = s.pc := rfl
@[simp] theorem State.setFlagN_ie (s : State) (v : Bool) : (s.setFlagN v).ie = s.ie := rfl
@[simp] theorem State.setFlagN_ifr (s : State) (v : Bool) : (s.setFlagN v).ifr = s.ifr := rfl
@[simp] theorem State.setFlagN_ime (s : State) (v : Bool) : (s.setFlagN v).ime = s.ime := rfl
@[simp] theorem State.setFlagN_imeSched (s : State) (v : Bool) : (s.setFlagN v).imeSched = s.imeSched := rfl
@[simp] theorem State.setFlagN_engine (s : State) (v : Bool) : (s.setFlagN v).engine = s.engine := rfl
@[simp] theorem State.setFlagN_cur (s : State) (v : Bool) : (s.setFlagN v).cur = s.cur := rfl
@[simp] theorem State.setFlagN_stepIdx (s : State) (v : Bool) : (s.setFlagN v).stepIdx = s.stepIdx := rfl
@[simp] theorem State.setFlagN_haltBug (s : State) (v : Bool) : (s.setFlagN v).haltBug = s.haltBug := rfl
@[simp] theorem State.setFlagN_w (s : State) (v : Bool) : (s.setFlagN v).w = s.w := rfl
@[simp] theorem State.setFlagN_z (s : State) (v : Bool) : (s.setFlagN v).z = s.z := rfl
@[simp] theorem State.setFlagN_irqIdx (s : State) (v : Bool) : (s.setFlagN v).irqIdx = s.irqIdx := rfl
@[simp] theorem State.setFlagN_tickDiv (s : State) (v : Bool) : (s.setFlagN v).tickDiv = s.tickDiv := rfl
@[simp] theorem State.setFlagN_cycleCount (s : State) (v : Bool) : (s.setFlagN v).cycleCount = s.cycleCount := rfl
@[simp] theorem State.setFlagN_mem (s : State) (v : Bool) : (s.setFlagN v).mem = s.mem := rfl
@[simp] theorem State.setFlagN_platform (s : State) (v : Bool) : (s.setFlagN v).platform = s.platform := rfl
@[simp] theorem State.setFlagN_inputs (s : State) (v : Bool) : (s.setFlagN v).inputs = s.inputs := rfl

/-! ### `setFlagH` -/

@[simp] theorem State.setFlagH_a (s : State) (v : Bool) : (s.setFlagH v).a = s.a := rfl
@[simp] theorem State.setFlagH_b (s : State) (v : Bool) : (s.setFlagH v).b = s.b := rfl
@[simp] theorem State.setFlagH_c (s : State) (v : Bool) : (s.setFlagH v).c = s.c := rfl
@[simp] theorem State.setFlagH_d (s : State) (v : Bool) : (s.setFlagH v).d = s.d := rfl
@[simp] theorem State.setFlagH_e (s : State) (v : Bool) : (s.setFlagH v).e = s.e := rfl
@[simp] theorem State.setFlagH_h (s : State) (v : Bool) : (s.setFlagH v).h = s.h := rfl
@[simp] theorem State.setFlagH_l (s : State) (v : Bool) : (s.setFlagH v).l = s.l := rfl
@[simp] theorem State.setFlagH_sp (s : State) (v : Bool) : (s.setFlagH v).sp = s.sp := rfl
@[simp] theorem State.setFlagH_pc (s : State) (v : Bool) : (s.setFlagH v).pc = s.pc := rfl
@[simp] theorem State.setFlagH_ie (s : State) (v : Bool) : (s.setFlagH v).ie = s.ie := rfl
@[simp] theorem State.setFlagH_ifr (s : State) (v : Bool) : (s.setFlagH v).ifr = s.ifr := rfl
@[simp] theorem State.setFlagH_ime (s : State) (v : Bool) : (s.setFlagH v).ime = s.ime := rfl
@[simp] theorem State.setFlagH_imeSched (s : State) (v : Bool) : (s.setFlagH v).imeSched = s.imeSched := rfl
@[simp] theorem State.setFlagH_engine (s : State) (v : Bool) : (s.setFlagH v).engine = s.engine := rfl
@[simp] theorem State.setFlagH_cur (s : State) (v : Bool) : (s.setFlagH v).cur = s.cur := rfl
@[simp] theorem State.setFlagH_stepIdx (s : State) (v : Bool) : (s.setFlagH v).stepIdx = s.stepIdx := rfl
@[simp] theorem State.setFlagH_haltBug (s : State) (v : Bool) : (s.setFlagH v).haltBug = s.haltBug := rfl
@[simp] theorem State.setFlagH_w (s : State) (v : Bool) : (s.setFlagH v).w = s.w := rfl
@[simp] theorem State.setFlagH_z (s : State) (v : Bool) : (s.setFlagH v).z = s.z := rfl
@[simp] theorem State.setFlagH_irqIdx (s : State) (v : Bool) : (s.setFlagH v).irqIdx = s.irqIdx := rfl
@[simp] theorem State.setFlagH_tickDiv (s : State) (v : Bool) : (s.setFlagH v).tickDiv = s.tickDiv := rfl
@[simp] theorem State.setFlagH_cycleCount (s : State) (v : Bool) : (s.setFlagH v).cycleCount = s.cycleCount := rfl
@[simp] theorem State.setFlagH_mem (s : State) (v : Bool) : (s.setFlagH v).mem = s.mem := rfl
@[simp] theorem State.setFlagH_platform (s : State) (v : Bool) : (s.setFlagH v).platform = s.platform := rfl
@[simp] theorem State.setFlagH_inputs (s : State) (v : Bool) : (s.setFlagH v).inputs = s.inputs := rfl

/-! ### `setFlagC` -/

@[simp] theorem State.setFlagC_a (s : State) (v : Bool) : (s.setFlagC v).a = s.a := rfl
@[simp] theorem State.setFlagC_b (s : State) (v : Bool) : (s.setFlagC v).b = s.b := rfl
@[simp] theorem State.setFlagC_c (s : State) (v : Bool) : (s.setFlagC v).c = s.c := rfl
@[simp] theorem State.setFlagC_d (s : State) (v : Bool) : (s.setFlagC v).d = s.d := rfl
@[simp] theorem State.setFlagC_e (s : State) (v : Bool) : (s.setFlagC v).e = s.e := rfl
@[simp] theorem State.setFlagC_h (s : State) (v : Bool) : (s.setFlagC v).h = s.h := rfl
@[simp] theorem State.setFlagC_l (s : State) (v : Bool) : (s.setFlagC v).l = s.l := rfl
@[simp] theorem State.setFlagC_sp (s : State) (v : Bool) : (s.setFlagC v).sp = s.sp := rfl
@[simp] theorem State.setFlagC_pc (s : State) (v : Bool) : (s.setFlagC v).pc = s.pc := rfl
@[simp] theorem State.setFlagC_ie (s : State) (v : Bool) : (s.setFlagC v).ie = s.ie := rfl
@[simp] theorem State.setFlagC_ifr (s : State) (v : Bool) : (s.setFlagC v).ifr = s.ifr := rfl
@[simp] theorem State.setFlagC_ime (s : State) (v : Bool) : (s.setFlagC v).ime = s.ime := rfl
@[simp] theorem State.setFlagC_imeSched (s : State) (v : Bool) : (s.setFlagC v).imeSched = s.imeSched := rfl
@[simp] theorem State.setFlagC_engine (s : State) (v : Bool) : (s.setFlagC v).engine = s.engine := rfl
@[simp] theorem State.setFlagC_cur (s : State) (v : Bool) : (s.setFlagC v).cur = s.cur := rfl
@[simp] theorem State.setFlagC_stepIdx (s : State) (v : Bool) : (s.setFlagC v).stepIdx = s.stepIdx := rfl
@[simp] theorem State.setFlagC_haltBug (s : State) (v : Bool) : (s.setFlagC v).haltBug = s.haltBug := rfl
@[simp] theorem State.setFlagC_w (s : State) (v : Bool) : (s.setFlagC v).w = s.w := rfl
@[simp] theorem State.setFlagC_z (s : State) (v : Bool) : (s.setFlagC v).z = s.z := rfl
@[simp] theorem State.setFlagC_irqIdx (s : State) (v : Bool) : (s.setFlagC v).irqIdx = s.irqIdx := rfl
@[simp] theorem State.setFlagC_tickDiv (s : State) (v : Bool) : (s.setFlagC v).tickDiv = s.tickDiv := rfl
@[simp] theorem State.setFlagC_cycleCount (s : State) (v : Bool) : (s.setFlagC v).cycleCount = s.cycleCount := rfl
@[simp] theorem State.setFlagC_mem (s : State) (v : Bool) : (s.setFlagC v).mem = s.mem := rfl
@[simp] theorem State.setFlagC_platform (s : State) (v : Bool) : (s.setFlagC v).platform = s.platform := rfl
@[simp] theorem State.setFlagC_inputs (s : State) (v : Bool) : (s.setFlagC v).inputs = s.inputs := rfl

/-! ### `putA` -/

@[simp] theorem State.putA_a (s : State) (x : Byte × Flags) : (s.putA x).a = x.1 := rfl
@[simp] theorem State.putA_f (s : State) (x : Byte × Flags) : (s.putA x).f = x.2.pack := rfl
@[simp] theorem State.putA_b (s : State) (x : Byte × Flags) : (s.putA x).b = s.b := rfl
@[simp] theorem State.putA_c (s : State) (x : Byte × Flags) : (s.putA x).c = s.c := rfl
@[simp] theorem State.putA_d (s : State) (x : Byte × Flags) : (s.putA x).d = s.d := rfl
@[simp] theorem State.putA_e (s : State) (x : Byte × Flags) : (s.putA x).e = s.e := rfl
@[simp] theorem State.putA_h (s : State) (x : Byte × Flags) : (s.putA x).h = s.h := rfl
@[simp] theorem State.putA_l (s : State) (x : Byte × Flags) : (s.putA x).l = s.l := rfl
@[simp] theorem State.putA_sp (s : State) (x : Byte × Flags) : (s.putA x).sp = s.sp := rfl
@[simp] theorem State.putA_pc (s : State) (x : Byte × Flags) : (s.putA x).pc = s.pc := rfl
@[simp] theorem State.putA_ie (s : State) (x : Byte × Flags) : (s.putA x).ie = s.ie := rfl
@[simp] theorem State.putA_ifr (s : State) (x : Byte × Flags) : (s.putA x).ifr = s.ifr := rfl
@[simp] theorem State.putA_ime (s : State) (x : Byte × Flags) : (s.putA x).ime = s.ime := rfl
@[simp] theorem State.putA_imeSched (s : State) (x : Byte × Flags) : (s.putA x).imeSched = s.imeSched := rfl
@[simp] theorem State.putA_engine (s : State) (x : Byte × Flags) : (s.putA x).engine = s.engine := rfl
@[simp] theorem State.putA_cur (s : State) (x : Byte × Flags) : (s.putA x).cur = s.cur := rfl
@[simp] theorem State.putA_stepIdx (s : State) (x : Byte × Flags) : (s.putA x).stepIdx = s.stepIdx := rfl
@[simp] theorem State.putA_haltBug (s : State) (x : Byte × Flags) : (s.putA x).haltBug = s.haltBug := rfl
@[simp] theorem State.putA_w (s : State) (x : Byte × Flags) : (s.putA x).w = s.w := rfl
@[simp] theorem State.putA_z (s : State) (x : Byte × Flags) : (s.putA x).z = s.z := rfl
@[simp] theorem State.putA_irqIdx (s : State) (x : Byte × Flags) : (s.putA x).irqIdx = s.irqIdx := rfl
@[simp] theorem State.putA_tickDiv (s : State) (x : Byte × Flags) : (s.putA x).tickDiv = s.tickDiv := rfl
@[simp] theorem State.putA_cycleCount (s : State) (x : Byte × Flags) : (s.putA x).cycleCount = s.cycleCount := rfl
@[simp] theorem State.putA_mem (s : State) (x : Byte × Flags) : (s.putA x).mem = s.mem := rfl
@[simp] theorem State.putA_platform (s : State) (x : Byte × Flags) : (s.putA x).platform = s.platform := rfl
@[simp] theorem State.putA_inputs (s : State) (x : Byte × Flags) : (s.putA x).inputs = s.inputs := rfl

/-! ### `applyAlu` -/

@[simp] theorem State.applyAlu_b (s : State) (op : AluOp) (b : Byte) : (s.applyAlu op b).b = s.b := by cases op <;> rfl
@[simp] theorem State.applyAlu_c (s : State) (op : AluOp) (b : Byte) : (s.applyAlu op b).c = s.c := by cases op <;> rfl
@[simp] theorem State.applyAlu_d (s : State) (op : AluOp) (b : Byte) : (s.applyAlu op b).d = s.d := by cases op <;> rfl
@[simp] theorem State.applyAlu_e (s : State) (op : AluOp) (b : Byte) : (s.applyAlu op b).e = s.e := by cases op <;> rfl
@[simp] theorem State.applyAlu_h (s : State) (op : AluOp) (b : Byte) : (s.applyAlu op b).h = s.h := by cases op <;> rfl
@[simp] theorem State.applyAlu_l (s : State) (op : AluOp) (b : Byte) : (s.applyAlu op b).l = s.l := by cases op <;> rfl
@[simp] theorem State.applyAlu_sp (s : State) (op : AluOp) (b : Byte) : (s.applyAlu op b).sp = s.sp := by cases op <;> rfl
@[simp] theorem State.applyAlu_pc (s : State) (op : AluOp) (b : Byte) : (s.applyAlu op b).pc = s.pc := by cases op <;> rfl
@[simp] theorem State.applyAlu_ie (s : State) (op : AluOp) (b : Byte) : (s.applyAlu op b).ie = s.ie := by cases op <;> rfl
@[simp] theorem State.applyAlu_ifr (s : State) (op : AluOp) (b : Byte) : (s.applyAlu op b).ifr = s.ifr := by cases op <;> rfl
@[simp] theorem State.applyAlu_ime (s : State) (op : AluOp) (b : Byte) : (s.applyAlu op b).ime = s.ime := by cases op <;> rfl
@[simp] theorem State.applyAlu_imeSched (s : State) (op : AluOp) (b : Byte) : (s.applyAlu op b).imeSched = s.imeSched := by cases op <;> rfl
@[simp] theorem State.applyAlu_engine (s : State) (op : AluOp) (b : Byte) : (s.applyAlu op b).engine = s.engine := by cases op <;> rfl
@[simp] theorem State.applyAlu_cur (s : State) (op : AluOp) (b : Byte) : (s.applyAlu op b).cur = s.cur := by cases op <;> rfl
@[simp] theorem State.applyAlu_stepIdx (s : State) (op : AluOp) (b : Byte) : (s.applyAlu op b).stepIdx = s.stepIdx := by cases op <;> rfl
@[simp] theorem State.applyAlu_haltBug (s : State) (op : AluOp) (b : Byte) : (s.applyAlu op b).haltBug = s.haltBug := by cases op <;> rfl
@[simp] theorem State.applyAlu_w (s : State) (op : AluOp) (b : Byte) : (s.applyAlu op b).w = s.w := by cases op <;> rfl
@[simp] theorem State.applyAlu_z (s : State) (op : AluOp) (b : Byte) : (s.applyAlu op b).z = s.z := by cases op <;> rfl
@[simp] theorem State.applyAlu_irqIdx (s : State) (op : AluOp) (b : Byte) : (s.applyAlu op b).irqIdx = s.irqIdx := by cases op <;> rfl
@[simp] theorem State.applyAlu_tickDiv (s : State) (op : AluOp) (b : Byte) : (s.applyAlu op b).tickDiv = s.tickDiv := by cases op <;> rfl
@[simp] theorem State.applyAlu_cycleCount (s : State) (op : AluOp) (b : Byte) : (s.applyAlu op b).cycleCount = s.cycleCount := by cases op <;> rfl
@[simp] theorem State.applyAlu_mem (s : State) (op : AluOp) (b : Byte) : (s.applyAlu op b).mem = s.mem := by cases op <;> rfl
@[simp] theorem State.applyAlu_platform (s : State) (op : AluOp) (b : Byte) : (s.applyAlu op b).platform = s.platform := by cases op <;> rfl
@[simp] theorem State.applyAlu_inputs (s : State) (op : AluOp) (b : Byte) : (s.applyAlu op b).inputs = s.inputs := by cases op <;> rfl

/-! ### `callTo` -/

@[simp] theorem State.callTo_a (s : State) (v : Word) : (s.callTo v).a = s.a := by simp [State.callTo]
@[simp] theorem State.callTo_f (s : State) (v : Word) : (s.callTo v).f = s.f := by simp [State.callTo]
@[simp] theorem State.callTo_b (s : State) (v : Word) : (s.callTo v).b = s.b := by simp [State.callTo]
@[simp] theorem State.callTo_c (s : State) (v : Word) : (s.callTo v).c = s.c := by simp [State.callTo]
@[simp] theorem State.callTo_d (s : State) (v : Word) : (s.callTo v).d = s.d := by simp [State.callTo]
@[simp] theorem State.callTo_e (s : State) (v : Word) : (s.callTo v).e = s.e := by simp [State.callTo]
@[simp] theorem State.callTo_h (s : State) (v : Word) : (s.callTo v).h = s.h := by simp [State.callTo]
@[simp] theorem State.callTo_l (s : State) (v : Word) : (s.callTo v).l = s.l := by simp [State.callTo]
@[simp] theorem State.callTo_sp (s : State) (v : Word) : (s.callTo v).sp = s.sp - 1 - 1 := by simp [State.callTo]
@[simp] theorem State.callTo_pc (s : State) (v : Word) : (s.callTo v).pc = v := by simp [State.callTo]
@[simp] theorem State.callTo_ime (s : State) (v : Word) : (s.callTo v).ime = s.ime := by simp [State.callTo]
@[simp] theorem State.callTo_imeSched (s : State) (v : Word) : (s.callTo v).imeSched = s.imeSched := by simp [State.callTo]
@[simp] theorem State.callTo_engine (s : State) (v : Word) : (s.callTo v).engine = s.engine := by simp [State.callTo]
@[simp] theorem State.callTo_cur (s : State) (v : Word) : (s.callTo v).cur = s.cur := by simp [State.callTo]
@[simp] theorem State.callTo_stepIdx (s : State) (v : Word) : (s.callTo v).stepIdx = s.stepIdx := by simp [State.callTo]
@[simp] theorem State.callTo_haltBug (s : State) (v : Word) : (s.callTo v).haltBug = s.haltBug := by simp [State.callTo]
@[simp] theorem State.callTo_w (s : State) (v : Word) : (s.callTo v).w = s.w := by simp [State.callTo]
@[simp] theorem State.callTo_z (s : State) (v : Word) : (s.callTo v).z = s.z := by simp [State.callTo]
@[simp] theorem State.callTo_irqIdx (s : State) (v : Word) : (s.callTo v).irqIdx = s.irqIdx := by simp [State.callTo]
@[simp] theorem State.callTo_tickDiv (s : State) (v : Word) : (s.callTo v).tickDiv = s.tickDiv := by simp [State.callTo]
@[simp] theorem State.callTo_cycleCount (s : State) (v : Word) : (s.callTo v).cycleCount = s.cycleCount + 4 + 4 + 4 := by simp [State.callTo]
@[simp] theorem State.callTo_platform (s : State) (v : Word) : (s.callTo v).platform = s.platform := by simp [State.callTo]
@[simp] theorem State.callTo_inputs (s : State) (v : Word) : (s.callTo v).inputs = s.inputs := by simp [State.callTo]

/-! ### `returnFromInterrupt` -/

@[simp] theorem State.returnFromInterrupt_a (s : State) (v : Word) : (s.returnFromInterrupt v).a = s.a := rfl
@[simp] theorem State.returnFromInterrupt_f (s : State) (v : Word) : (s.returnFromInterrupt v).f = s.f := rfl
@[simp] theorem State.returnFromInterrupt_b (s : State) (v : Word) : (s.returnFromInterrupt v).b = s.b := rfl
@[simp] theorem State.returnFromInterrupt_c (s : State) (v : Word) : (s.returnFromInterrupt v).c = s.c := rfl
@[simp] theorem State.returnFromInterrupt_d (s : State) (v : Word) : (s.returnFromInterrupt v).d = s.d := rfl
@[simp] theorem State.returnFromInterrupt_e (s : State) (v : Word) : (s.returnFromInterrupt v).e = s.e := rfl
@[simp] theorem State.returnFromInterrupt_h (s : State) (v : Word) : (s.returnFromInterrupt v).h = s.h := rfl
@[simp] theorem State.returnFromInterrupt_l (s : State) (v : Word) : (s.returnFromInterrupt v).l = s.l := rfl
@[simp] theorem State.returnFromInterrupt_sp (s : State) (v : Word) : (s.returnFromInterrupt v).sp = s.sp := rfl
@[simp] theorem State.returnFromInterrupt_pc (s : State) (v : Word) : (s.returnFromInterrupt v).pc = v := rfl
@[simp] theorem State.returnFromInterrupt_ie (s : State) (v : Word) : (s.returnFromInterrupt v).ie = s.ie := rfl
@[simp] theorem State.returnFromInterrupt_ifr (s : State) (v : Word) : (s.returnFromInterrupt v).ifr = s.ifr := rfl
@[simp] theorem State.returnFromInterrupt_ime (s : State) (v : Word) : (s.returnFromInterrupt v).ime = true := rfl
@[simp] theorem State.returnFromInterrupt_imeSched (s : State) (v : Word) : (s.returnFromInterrupt v).imeSched = .none := rfl
@[simp] theorem State.returnFromInterrupt_engine (s : State) (v : Word) : (s.returnFromInterrupt v).engine = s.engine := rfl
@[simp] theorem State.returnFromInterrupt_cur (s : State) (v : Word) : (s.returnFromInterrupt v).cur = s.cur := rfl
@[simp] theorem State.returnFromInterrupt_stepIdx (s : State) (v : Word) : (s.returnFromInterrupt v).stepIdx = s.stepIdx := rfl
@[simp] theorem State.returnFromInterrupt_haltBug (s : State) (v : Word) : (s.returnFromInterrupt v).haltBug = s.haltBug := rfl
@[simp] theorem State.returnFromInterrupt_w (s : State) (v : Word) : (s.returnFromInterrupt v).w = s.w := rfl
@[simp] theorem State.returnFromInterrupt_z (s : State) (v : Word) : (s.returnFromInterrupt v).z = s.z := rfl
@[simp] theorem State.returnFromInterrupt_irqIdx (s : State) (v : Word) : (s.returnFromInterrupt v).irqIdx = s.irqIdx := rfl
@[simp] theorem State.returnFromInterrupt_tickDiv (s : State) (v : Word) : (s.returnFromInterrupt v).tickDiv = s.tickDiv := rfl
@[simp] theorem State.returnFromInterrupt_cycleCount (s : State) (v : Word) : (s.returnFromInterrupt v).cycleCount = s.cycleCount := rfl
@[simp] theorem State.returnFromInterrupt_mem (s : State) (v : Word) : (s.returnFromInterrupt v).mem = s.mem := rfl
@[simp] theorem State.returnFromInterrupt_platform (s : State) (v : Word) : (s.returnFromInterrupt v).platform = s.platform := rfl
@[simp] theorem State.returnFromInterrupt_inputs (s : State) (v : Word) : (s.returnFromInterrupt v).inputs = s.inputs := rfl

/-! ### `afterOpcode` -/

@[simp] theorem State.afterOpcode_a (s : State) : s.afterOpcode.a = s.a := by unfold State.afterOpcode; split <;> rfl
@[simp] theorem State.afterOpcode_f (s : State) : s.afterOpcode.f = s.f := by unfold State.afterOpcode; split <;> rfl
@[simp] theorem State.afterOpcode_b (s : State) : s.afterOpcode.b = s.b := by unfold State.afterOpcode; split <;> rfl
@[simp] theorem State.afterOpcode_c (s : State) : s.afterOpcode.c = s.c := by unfold State.afterOpcode; split <;> rfl
@[simp] theorem State.afterOpcode_d (s : State) : s.afterOpcode.d = s.d := by unfold State.afterOpcode; split <;> rfl
@[simp] theorem State.afterOpcode_e (s : State) : s.afterOpcode.e = s.e := by unfold State.afterOpcode; split <;> rfl
@[simp] theorem State.afterOpcode_h (s : State) : s.afterOpcode.h = s.h := by unfold State.afterOpcode; split <;> rfl
@[simp] theorem State.afterOpcode_l (s : State) : s.afterOpcode.l = s.l := by unfold State.afterOpcode; split <;> rfl
@[simp] theorem State.afterOpcode_sp (s : State) : s.afterOpcode.sp = s.sp := by unfold State.afterOpcode; split <;> rfl
@[simp] theorem State.afterOpcode_ie (s : State) : s.afterOpcode.ie = s.ie := by unfold State.afterOpcode; split <;> rfl
@[simp] theorem State.afterOpcode_ifr (s : State) : s.afterOpcode.ifr = s.ifr := by unfold State.afterOpcode; split <;> rfl
@[simp] theorem State.afterOpcode_ime (s : State) : s.afterOpcode.ime = s.ime := by unfold State.afterOpcode; split <;> rfl
@[simp] theorem State.afterOpcode_imeSched (s : State) : s.afterOpcode.imeSched = s.imeSched := by unfold State.afterOpcode; split <;> rfl
@[simp] theorem State.afterOpcode_engine (s : State) : s.afterOpcode.engine = s.engine := by unfold State.afterOpcode; split <;> rfl
@[simp] theorem State.afterOpcode_cur (s : State) : s.afterOpcode.cur = s.cur := by unfold State.afterOpcode; split <;> rfl
@[simp] theorem State.afterOpcode_stepIdx (s : State) : s.afterOpcode.stepIdx = s.stepIdx := by unfold State.afterOpcode; split <;> rfl
@[simp] theorem State.afterOpcode_w (s : State) : s.afterOpcode.w = s.w := by unfold State.afterOpcode; split <;> rfl
@[simp] theorem State.afterOpcode_z (s : State) : s.afterOpcode.z = s.z := by unfold State.afterOpcode; split <;> rfl
@[simp] theorem State.afterOpcode_irqIdx (s : State) : s.afterOpcode.irqIdx = s.irqIdx := by unfold State.afterOpcode; split <;> rfl
@[simp] theorem State.afterOpcode_tickDiv (s : State) : s.afterOpcode.tickDiv = s.tickDiv := by unfold State.afterOpcode; split <;> rfl
@[simp] theorem State.afterOpcode_cycleCount (s : State) : s.afterOpcode.cycleCount = s.cycleCount := by unfold State.afterOpcode; split <;> rfl
@[simp] theorem State.afterOpcode_mem (s : State) : s.afterOpcode.mem = s.mem := by unfold State.afterOpcode; split <;> rfl
@[simp] theorem State.afterOpcode_platform (s : State) : s.afterOpcode.platform = s.platform := by unfold State.afterOpcode; split <;> rfl
@[simp] theorem State.afterOpcode_inputs (s : State) : s.afterOpcode.inputs = s.inputs := by unfold State.afterOpcode; split <;> rfl

/-! ### `afterOperand` -/

@[simp] theorem State.afterOperand_a (s : State) : s.afterOperand.a = s.a := rfl
@[simp] theorem State.afterOperand_f (s : State) : s.afterOperand.f = s.f := rfl
@[simp] theorem State.afterOperand_b (s : State) : s.afterOperand.b = s.b := rfl
@[simp] theorem State.afterOperand_c (s : State) : s.afterOperand.c = s.c := rfl
@[simp] theorem State.afterOperand_d (s : State) : s.afterOperand.d = s.d := rfl
@[simp] theorem State.afterOperand_e (s : State) : s.afterOperand.e = s.e := rfl
@[simp] theorem State.afterOperand_h (s : State) : s.afterOperand.h = s.h := rfl
@[simp] theorem State.afterOperand_l (s : State) : s.afterOperand.l = s.l := rfl
@[simp] theorem State.afterOperand_sp (s : State) : s.afterOperand.sp = s.sp := rfl
@[simp] theorem State.afterOperand_pc (s : State) : s.afterOperand.pc = s.pc + 1 := rfl
@[simp] theorem State.afterOperand_ie (s : State) : s.afterOperand.ie = s.ie := rfl
@[simp] theorem State.afterOperand_ifr (s : State) : s.afterOperand.ifr = s.ifr := rfl
@[simp] theorem State.afterOperand_ime (s : State) : s.afterOperand.ime = s.ime := rfl
@[simp] theorem State.afterOperand_imeSched (s : State) : s.afterOperand.imeSched = s.imeSched := rfl
@[simp] theorem State.afterOperand_engine (s : State) : s.afterOperand.engine = s.engine := rfl
@[simp] theorem State.afterOperand_cur (s : State) : s.afterOperand.cur = s.cur := rfl
@[simp] theorem State.afterOperand_stepIdx (s : State) : s.afterOperand.stepIdx = s.stepIdx := rfl
@[simp] theorem State.afterOperand_haltBug (s : State) : s.afterOperand.haltBug = s.haltBug := rfl
@[simp] theorem State.afterOperand_w (s : State) : s.afterOperand.w = s.w := rfl
@[simp] theorem State.afterOperand_z (s : State) : s.afterOperand.z = s.z := rfl
@[simp] theorem State.afterOperand_irqIdx (s : State) : s.afterOperand.irqIdx = s.irqIdx := rfl
@[simp] theorem State.afterOperand_tickDiv (s : State) : s.afterOperand.tickDiv = s.tickDiv := rfl
@[simp] theorem State.afterOperand_cycleCount (s : State) : s.afterOperand.cycleCount = s.cycleCount := rfl
@[simp] theorem State.afterOperand_mem (s : State) : s.afterOperand.mem = s.mem := rfl
@[simp] theorem State.afterOperand_platform (s : State) : s.afterOperand.platform = s.platform := rfl
@[simp] theorem State.afterOperand_inputs (s : State) : s.afterOperand.inputs = s.inputs := rfl

/-! ### `arrive` -/

/-- What events of the other collaborators leave alone in a field that neither a request nor a bus write touches. -/
theorem foldl_applyInput_field {α : Type} (get : State → α) (h : ∀ (u : State) (x : Input), get (u.applyInput x) = get u)
    (l : List Input) (u : State) : get (l.foldl State.applyInput u) = get u := by
  induction l generalizing u with
  | nil => rfl
  | cons x l ih => rw [List.foldl_cons, ih, h]

theorem arrive_field {α : Type} (get : State → α) (h : ∀ (u : State) (x : Input), get (u.applyInput x) = get u)
    (h' : ∀ (u : State) (l : List (List Input)), get { u with inputs := l } = get u) (s : State) : get s.arrive = get s := by
  unfold State.arrive
  split
  · rfl
  · rw [foldl_applyInput_field get h, h']

@[simp] theorem State.arrive_a (s : State) : s.arrive.a = s.a :=
  arrive_field State.a (fun u x => by cases x <;> simp [State.applyInput]) (fun _ _ => rfl) s
@[simp] theorem State.arrive_f (s : State) : s.arrive.f = s.f :=
  arrive_field State.f (fun u x => by cases x <;> simp [State.applyInput]) (fun _ _ => rfl) s
@[simp] theorem State.arrive_b (s : State) : s.arrive.b = s.b :=
  arrive_field State.b (fun u x => by cases x <;> simp [State.applyInput]) (fun _ _ => rfl) s
@[simp] theorem State.arrive_c (s : State) : s.arrive.c = s.c :=
  arrive_field State.c (fun u x => by cases x <;> simp [State.applyInput]) (fun _ _ => rfl) s
@[simp] theorem State.arrive_d (s : State) : s.arrive.d = s.d :=
  arrive_field State.d (fun u x => by cases x <;> simp [State.applyInput]) (fun _ _ => rfl) s
@[simp] theorem State.arrive_e (s : State) : s.arrive.e = s.e :=
  arrive_field State.e (fun u x => by cases x <;> simp [State.applyInput]) (fun _ _ => rfl) s
@[simp] theorem State.arrive_h (s : State) : s.arrive.h = s.h :=
  arrive_field State.h (fun u x => by cases x <;> simp [State.applyInput]) (fun _ _ => rfl) s
@[simp] theorem State.arrive_l (s : State) : s.arrive.l = s.l :=
  arrive_field State.l (fun u x => by cases x <;> simp [State.applyInput]) (fun _ _ => rfl) s
@[simp] theorem State.arrive_sp (s : State) : s.arrive.sp = s.sp :=
  arrive_field State.sp (fun u x => by cases x <;> simp [State.applyInput]) (fun _ _ => rfl) s
@[simp] theorem State.arrive_pc (s : State) : s.arrive.pc = s.pc :=
  arrive_field State.pc (fun u x => by cases x <;> simp [State.applyInput]) (fun _ _ => rfl) s
@[simp] theorem State.arrive_ime (s : State) : s.arrive.ime = s.ime :=
  arrive_field State.ime (fun u x => by cases x <;> simp [State.applyInput]) (fun _ _ => rfl) s
@[simp] theorem State.arrive_imeSched (s : State) : s.arrive.imeSched = s.imeSched :=
  arrive_field State.imeSched (fun u x => by cases x <;> simp [State.applyInput]) (fun _ _ => rfl) s
@[simp] theorem State.arrive_engine (s : State) : s.arrive.engine = s.engine :=
  arrive_field State.engine (fun u x => by cases x <;> simp [State.applyInput]) (fun _ _ => rfl) s
@[simp] theorem State.arrive_cur (s : State) : s.arrive.cur = s.cur :=
  arrive_field State.cur (fun u x => by cases x <;> simp [State.applyInput]) (fun _ _ => rfl) s
@[simp] theorem State.arrive_stepIdx (s : State) : s.arrive.stepIdx = s.stepIdx :=
  arrive_field State.stepIdx (fun u x => by cases x <;> simp [State.applyInput]) (fun _ _ => rfl) s
@[simp] theorem State.arrive_haltBug (s : State) : s.arrive.haltBug = s.haltBug :=
  arrive_field State.haltBug (fun u x => by cases x <;> simp [State.applyInput]) (fun _ _ => rfl) s
@[simp] theorem State.arrive_w (s : State) : s.arrive.w = s.w :=
  arrive_field State.w (fun u x => by cases x <;> simp [State.applyInput]) (fun _ _ => rfl) s
@[simp] theorem State.arrive_z (s : State) : s.arrive.z = s.z :=
  arrive_field State.z (fun u x => by cases x <;> simp [State.applyInput]) (fun _ _ => rfl) s
@[simp] theorem State.arrive_irqIdx (s : State) : s.arrive.irqIdx = s.irqIdx :=
  arrive_field State.irqIdx (fun u x => by cases x <;> simp [State.applyInput]) (fun _ _ => rfl) s
@[simp] theorem State.arrive_tickDiv (s : State) : s.arrive.tickDiv = s.tickDiv :=
  arrive_field State.tickDiv (fun u x => by cases x <;> simp [State.applyInput]) (fun _ _ => rfl) s
@[simp] theorem State.arrive_cycleCount (s : State) : s.arrive.cycleCount = s.cycleCount :=
  arrive_field State.cycleCount (fun u x => by cases x <;> simp [State.applyInput]) (fun _ _ => rfl) s
@[simp] theorem State.arrive_platform (s : State) : s.arrive.platform = s.platform :=
  arrive_field State.platform (fun u x => by cases x <;> simp [State.applyInput]) (fun _ _ => rfl) s

@[simp] theorem State.arrive_inputs (s : State) : s.arrive.inputs = s.inputs.drop 1 := by
  unfold State.arrive
  split
  · next h => simp [h]
  · next now later h =>
    rw [foldl_applyInput_field State.inputs (fun u x => by cases x <;> simp [State.applyInput]), h]
    rfl

theorem State.arrive_of_nil {s : State} (h : s.inputs = []) : s.arrive = s := by
  unfold State.arrive; rw [h]


/-! ### Reading back what an update wrote -/

@[simp] theorem State.reg_setReg (s : State) (r r' : Reg8) (v : Byte) :
    (s.setReg r v).reg r' = if r' = r then v else s.reg r' := by
  cases r <;> cases r' <;> rfl

@[simp] theorem State.setReg_reg (s : State) (r : Reg8) : s.setReg r (s.reg r) = s := by cases r <;> rfl

@[simp] theorem hiByte_joinBytes (x y : Byte) : hiByte (joinBytes x y) = x := by
  apply BitVec.eq_of_toNat_eq
  simp only [hiByte, joinBytes, BitVec.extractLsb'_toNat, BitVec.toNat_append, Nat.shiftRight_eq_div_pow]
  have := x.isLt; have := y.isLt
  rw [Nat.shiftLeft_eq, ← Nat.mul_comm, ← Nat.two_pow_add_eq_or_of_lt this]
  omega

@[simp] theorem loByte_joinBytes (x y : Byte) : loByte (joinBytes x y) = y := by
  apply BitVec.eq_of_toNat_eq
  simp only [loByte, joinBytes, BitVec.extractLsb'_toNat, BitVec.toNat_append, Nat.shiftRight_eq_div_pow]
  have := x.isLt; have := y.isLt
  rw [Nat.shiftLeft_eq, ← Nat.mul_comm, ← Nat.two_pow_add_eq_or_of_lt this]
  omega

@[simp] theorem joinBytes_hiByte_loByte (v : Word) : joinBytes (hiByte v) (loByte v) = v := by
  apply BitVec.eq_of_toNat_eq
  simp only [loByte, hiByte, joinBytes, BitVec.extractLsb'_toNat, BitVec.toNat_append, Nat.shiftRight_eq_div_pow]
  have := v.isLt
  rw [Nat.shiftLeft_eq, ← Nat.mul_comm, ← Nat.two_pow_add_eq_or_of_lt (by omega)]
  omega

@[simp] theorem State.bc_setBc (s : State) (v : Word) : (s.setBc v).bc = v := by simp [State.bc]
@[simp] theorem State.de_setDe (s : State) (v : Word) : (s.setDe v).de = v := by simp [State.de]
@[simp] theorem State.hl_setHl (s : State) (v : Word) : (s.setHl v).hl = v := by simp [State.hl]

theorem and_F0_and_F0 (v : Byte) : v &&& 0xF0 &&& 0xF0 = v &&& 0xF0 := by
  rw [BitVec.and_assoc]; rfl

@[simp] theorem State.readF_writeF (s : State) (v : Byte) : (s.writeF v).readF = v &&& 0xF0 := by
  simp [State.readF]; exact and_F0_and_F0 v

/-- Each flag of a packed byte. -/
@[simp] theorem Flags.pack_getLsbD (x : Flags) :
    x.pack.getLsbD 7 = x.z ∧ x.pack.getLsbD 6 = x.n ∧ x.pack.getLsbD 5 = x.h ∧ x.pack.getLsbD 4 = x.c := by
  rcases x with ⟨z, n, h, c⟩
  cases z <;> cases n <;> cases h <;> cases c <;> decide

@[simp] theorem Flags.pack_low (x : Flags) : x.pack.extractLsb' 0 4 = 0 := by
  rcases x with ⟨z, n, h, c⟩
  cases z <;> cases n <;> cases h <;> cases c <;> decide

@[simp] theorem Flags.pack_getElem_z (x : Flags) : x.pack[7] = x.z := (Flags.pack_getLsbD x).1
@[simp] theorem Flags.pack_getElem_n (x : Flags) : x.pack[6] = x.n := (Flags.pack_getLsbD x).2.1
@[simp] theorem Flags.pack_getElem_h (x : Flags) : x.pack[5] = x.h := (Flags.pack_getLsbD x).2.2.1
@[simp] theorem Flags.pack_getElem_c (x : Flags) : x.pack[4] = x.c := (Flags.pack_getLsbD x).2.2.2

/-- A packed byte reads as it was packed (R21). -/
@[simp] theorem Flags.pack_and (x : Flags) : x.pack &&& 0xF0 = x.pack := by
  rcases x with ⟨z, n, h, c⟩
  cases z <;> cases n <;> cases h <;> cases c <;> decide

/-- Every bit of a packed byte. -/
theorem Flags.pack_bit (x : Flags) (k : Nat) :
    x.pack.getLsbD k = if k = 7 then x.z else if k = 6 then x.n else if k = 5 then x.h else if k = 4 then x.c else false := by
  by_cases hk : k < 8
  · have : k = 0 ∨ k = 1 ∨ k = 2 ∨ k = 3 ∨ k = 4 ∨ k = 5 ∨ k = 6 ∨ k = 7 := by omega
    rcases x with ⟨z, n, h, c⟩
    rcases this with rfl | rfl | rfl | rfl | rfl | rfl | rfl | rfl <;>
      cases z <;> cases n <;> cases h <;> cases c <;> decide
  · rw [BitVec.getLsbD_of_ge _ _ (by omega), if_neg (by omega), if_neg (by omega), if_neg (by omega), if_neg (by omega)]

/-- Every bit of F as it is read. -/
theorem State.readF_bit (s : State) (k : Nat) :
    s.readF.getLsbD k
      = if k = 7 then s.flagZ else if k = 6 then s.flagN else if k = 5 then s.flagH else if k = 4 then s.flagC else false := by
  by_cases hk : k < 8
  · have : k = 0 ∨ k = 1 ∨ k = 2 ∨ k = 3 ∨ k = 4 ∨ k = 5 ∨ k = 6 ∨ k = 7 := by omega
    rcases this with rfl | rfl | rfl | rfl | rfl | rfl | rfl | rfl <;>
      simp [State.readF, State.flagZ, State.flagN, State.flagH, State.flagC]
  · rw [BitVec.getLsbD_of_ge _ _ (by omega), if_neg (by omega), if_neg (by omega), if_neg (by omega), if_neg (by omega)]

@[simp] theorem State.readF_setFlags (s : State) (x : Flags) : (s.setFlags x).readF = x.pack := Flags.pack_and x

/-- The flags of a state whose F is a packed byte. -/
theorem State.flags_of_f {s : State} {x : Flags} (h : s.f = x.pack) :
    s.flagZ = x.z ∧ s.flagN = x.n ∧ s.flagH = x.h ∧ s.flagC = x.c ∧ s.f.extractLsb' 0 4 = 0 := by
  have := Flags.pack_getLsbD x
  simp only [State.flagZ, State.flagN, State.flagH, State.flagC, h]
  exact ⟨this.1, this.2.1, this.2.2.1, this.2.2.2, Flags.pack_low x⟩

@[simp] theorem State.flagZ_setFlags (s : State) (x : Flags) : (s.setFlags x).flagZ = x.z := (Flags.pack_getLsbD x).1
@[simp] theorem State.flagN_setFlags (s : State) (x : Flags) : (s.setFlags x).flagN = x.n := (Flags.pack_getLsbD x).2.1
@[simp] theorem State.flagH_setFlags (s : State) (x : Flags) : (s.setFlags x).flagH = x.h := (Flags.pack_getLsbD x).2.2.1
@[simp] theorem State.flagC_setFlags (s : State) (x : Flags) : (s.setFlags x).flagC = x.c := (Flags.pack_getLsbD x).2.2.2

end Sys2Proof.Machine
end

