-- ==== Sys2Proof/Laws/Memory.lean ====
section
/-! SUPPORT. Memory: a read after a write, the canonical form, and what the operations over the bus do to the byte at an
address. -/

namespace Sys2Proof.Machine

/-! ### The list -/

theorem Memory.read_nil (a : Nat) : Memory.read [] a = 0 := rfl

theorem Memory.read_erase_self (m : Memory) (a : Nat) : (m.erase a).read a = 0 := by
  induction m with
  | nil => rfl
  | cons cell rest ih =>
    simp only [Memory.erase, List.filter_cons]
    split
    · next h =>
      have h' : a ≠ cell.1 := fun e => by simp [e] at h
      simp only [Memory.read, if_neg h']; exact ih
    · exact ih

theorem Memory.read_erase_of_ne (m : Memory) {a x : Nat} (h : x ≠ a) : (m.erase a).read x = m.read x := by
  induction m with
  | nil => rfl
  | cons cell rest ih =>
    simp only [Memory.erase, List.filter_cons] at ih ⊢
    split
    · simp only [Memory.read]; split <;> [rfl; exact ih]
    · next h' =>
      have : cell.1 = a := by simpa using h'
      have h'' : x ≠ cell.1 := this ▸ h
      simpa [Memory.read, h''] using ih

theorem Memory.not_mem_erase (m : Memory) (a : Nat) : ∀ cell ∈ m.erase a, cell.1 ≠ a := by
  intro cell h; simpa using (List.mem_filter.1 h).2

theorem Memory.read_place (m : Memory) (a : Nat) (v : Byte) (x : Nat) (h : ∀ cell ∈ m, cell.1 ≠ a) :
    (m.place a v).read x = if x = a then v else m.read x := by
  induction m with
  | nil => simp [Memory.place, Memory.read]
  | cons cell rest ih =>
    have h1 : cell.1 ≠ a := h cell (by simp)
    have h2 := ih fun c hc => h c (by simp [hc])
    simp only [Memory.place]
    split
    · simp [Memory.read]
    · simp only [Memory.read, h2]
      split
      · next e => subst e; simp [h1]
      · rfl

/-- A read after a write to the same address. -/
@[simp] theorem Memory.read_write_self (m : Memory) (a : Nat) (v : Byte) : (m.write a v).read a = v := by
  unfold Memory.write
  split
  · next h => rw [Memory.read_erase_self, h]; rfl
  · rw [Memory.read_place _ _ _ _ (m.not_mem_erase a)]; simp

/-- A write leaves every other address alone. -/
theorem Memory.read_write_of_ne (m : Memory) {a x : Nat} (v : Byte) (h : x ≠ a) : (m.write a v).read x = m.read x := by
  unfold Memory.write
  split
  · exact Memory.read_erase_of_ne m h
  · rw [Memory.read_place _ _ _ _ (m.not_mem_erase a), if_neg h, Memory.read_erase_of_ne m h]

theorem Memory.read_write (m : Memory) (a : Nat) (v : Byte) (x : Nat) :
    (m.write a v).read x = if x = a then v else m.read x := by
  split
  · next h => subst h; simp
  · next h => exact Memory.read_write_of_ne m v h

/-! ### The canonical form -/

theorem Memory.wfFrom_mono {lo lo' : Nat} (h : lo' ≤ lo) {m : Memory} (hm : Memory.wfFrom lo m = true) :
    Memory.wfFrom lo' m = true := by
  cases m with
  | nil => rfl
  | cons cell rest =>
    simp only [Memory.wfFrom, Bool.and_eq_true, decide_eq_true_eq] at hm ⊢
    exact ⟨⟨⟨by omega, hm.1.1.2⟩, hm.1.2⟩, hm.2⟩

/-- Every listed address is at or above the bound. -/
theorem Memory.le_of_wfFrom {lo : Nat} {m : Memory} (hm : Memory.wfFrom lo m = true) : ∀ cell ∈ m, lo ≤ cell.1 := by
  induction m generalizing lo with
  | nil => simp
  | cons cell rest ih =>
    simp only [Memory.wfFrom, Bool.and_eq_true, decide_eq_true_eq] at hm
    intro c hc
    rcases List.mem_cons.1 hc with rfl | hc
    · exact hm.1.1.1
    · have := ih hm.2 c hc; omega

theorem Memory.wfFrom_erase {lo : Nat} {m : Memory} (a : Nat) (hm : Memory.wfFrom lo m = true) :
    Memory.wfFrom lo (m.erase a) = true := by
  induction m generalizing lo with
  | nil => rfl
  | cons cell rest ih =>
    simp only [Memory.wfFrom, Bool.and_eq_true, decide_eq_true_eq] at hm
    simp only [Memory.erase, List.filter_cons] at ih ⊢
    split
    · simp only [Memory.wfFrom, Bool.and_eq_true, decide_eq_true_eq]; exact ⟨hm.1, ih hm.2⟩
    · exact Memory.wfFrom_mono (by omega) (ih hm.2)

theorem Memory.wfFrom_place {lo a : Nat} {m : Memory} {v : Byte} (hlo : lo ≤ a) (ha : a < 65536) (hv : v ≠ Memory.unlisted)
    (hne : ∀ cell ∈ m, cell.1 ≠ a) (hm : Memory.wfFrom lo m = true) : Memory.wfFrom lo (m.place a v) = true := by
  induction m generalizing lo with
  | nil => simp [Memory.place, Memory.wfFrom, hlo, ha, hv]
  | cons cell rest ih =>
    simp only [Memory.wfFrom, Bool.and_eq_true, decide_eq_true_eq] at hm
    have h1 : cell.1 ≠ a := hne cell (by simp)
    simp only [Memory.place]
    split
    · next hlt =>
      have hb : (v != Memory.unlisted) = true := by simpa using hv
      simp only [Memory.wfFrom, Bool.and_eq_true, decide_eq_true_eq]
      exact ⟨⟨⟨hlo, ha⟩, hb⟩, ⟨⟨by omega, hm.1.1.2⟩, hm.1.2⟩, hm.2⟩
    · next hge =>
      simp only [Memory.wfFrom, Bool.and_eq_true, decide_eq_true_eq]
      exact ⟨hm.1, ih (by omega) (fun c hc => hne c (by simp [hc])) hm.2⟩

/-- A write keeps the canonical form. -/
theorem Memory.wf_write {m : Memory} {a : Nat} {v : Byte} (ha : a < 65536) (hm : m.wf = true) : (m.write a v).wf = true := by
  unfold Memory.write
  split
  · exact Memory.wfFrom_erase a hm
  · next hv => exact Memory.wfFrom_place (Nat.zero_le a) ha hv (m.not_mem_erase a) (Memory.wfFrom_erase a hm)

/-- Erasing keeps the canonical form. -/
theorem Memory.wf_erase {m : Memory} (a : Nat) (hm : m.wf = true) : (m.erase a).wf = true := Memory.wfFrom_erase a hm

/-- Placing a value other than the unlisted one, at an address not listed, keeps the canonical form. -/
theorem Memory.wf_place {m : Memory} {a : Nat} {v : Byte} (ha : a < 65536) (hv : v ≠ Memory.unlisted)
    (hne : ∀ cell ∈ m, cell.1 ≠ a) (hm : m.wf = true) : (m.place a v).wf = true :=
  Memory.wfFrom_place (Nat.zero_le a) ha hv hne hm

/-- An address below the bound reads as unlisted. -/
theorem Memory.read_of_lt {lo a : Nat} {m : Memory} (hm : Memory.wfFrom lo m = true) (h : a < lo) : m.read a = 0 := by
  induction m generalizing lo with
  | nil => rfl
  | cons cell rest ih =>
    simp only [Memory.wfFrom, Bool.and_eq_true, decide_eq_true_eq] at hm
    have : a ≠ cell.1 := by omega
    simpa [Memory.read, this] using ih hm.2 (by omega)

/-- Nothing is listed right after reset, which is canonical. -/
theorem Memory.wf_reset : State.reset.mem.wf = true := rfl

/-! ### The quirk routine -/

theorem Memory.foldl_write_read {l : List Nat} (f : Nat → Byte) {x : Nat} (h : ∀ i ∈ l, x ≠ Config.oamLo.toNat + i)
    (m : Memory) : (l.foldl (fun m' i => m'.write (Config.oamLo.toNat + i) (f i)) m).read x = m.read x := by
  induction l generalizing m with
  | nil => rfl
  | cons i l ih =>
    rw [List.foldl_cons, ih (fun j hj => h j (by simp [hj])), Memory.read_write_of_ne _ _ (h i (by simp))]

/-- The byte written at one place among others. -/
theorem Memory.foldl_write_read_mem {l : List Nat} (f : Nat → Byte) {k : Nat} (h : k ∈ l) (m : Memory) :
    (l.foldl (fun m' i => m'.write (Config.oamLo.toNat + i) (f i)) m).read (Config.oamLo.toNat + k) = f k := by
  induction l generalizing m with
  | nil => cases h
  | cons i l ih =>
    rw [List.foldl_cons]
    by_cases hl : k ∈ l
    · exact ih hl _
    · obtain rfl : k = i := by simpa [hl] using h
      rw [Memory.foldl_write_read f (fun j hj e => hl (by rwa [Nat.add_left_cancel e])), Memory.read_write_self]

theorem Memory.foldl_write_wf {l : List Nat} (f : Nat → Byte) (h : ∀ i ∈ l, Config.oamLo.toNat + i < 65536) {m : Memory}
    (hm : m.wf = true) : (l.foldl (fun m' i => m'.write (Config.oamLo.toNat + i) (f i)) m).wf = true := by
  induction l generalizing m with
  | nil => exact hm
  | cons i l ih =>
    rw [List.foldl_cons]
    exact ih (fun j hj => h j (by simp [hj])) (Memory.wf_write (h i (by simp)) hm)

/-- The corruption routine keeps the canonical form. -/
theorem wf_oamCorrupted (tag : QuirkTag) (k : Nat) {m : Memory} (hm : m.wf = true) : (oamCorrupted tag k m).wf = true := by
  unfold oamCorrupted
  refine Memory.foldl_write_wf _ (fun i hi => ?_) hm
  have : i < oamSize := by simpa using hi
  have e : oamSize = 256 := by decide
  have e' : Config.oamLo.toNat = 65024 := by decide
  omega

/-- The corruption routine changes no byte outside the region (R396). -/
theorem read_oamCorrupted (tag : QuirkTag) (k : Nat) (m : Memory) {a : Word} (h : inOam a = false) :
    (oamCorrupted tag k m).read a.toNat = m.read a.toNat := by
  unfold oamCorrupted
  refine Memory.foldl_write_read _ (fun i hi e => ?_) m
  have hi : i < oamSize := by simpa using hi
  have e1 : oamSize = 256 := by decide
  have e2 : Config.oamLo.toNat = 65024 := by decide
  have e3 : Config.oamHi.toNat = 65279 := by decide
  simp only [inOam, Bool.and_eq_false_iff, decide_eq_false_iff_not, BitVec.le_def] at h
  omega

/-- The corruption routine gives each byte of the region its new value (R396; log 8). -/
theorem read_oamCorrupted_of_lt (tag : QuirkTag) (ticks : Nat) (m : Memory) {i : Nat} (h : i < oamSize) :
    (oamCorrupted tag ticks m).read (Config.oamLo.toNat + i) = Config.oamCorrupt tag ticks (oamBytes m) i :=
  Memory.foldl_write_read_mem _ (List.mem_range.2 h) m

/-! ### The bus -/

theorem ieAddr_ne_ifAddr : Config.ieAddr ≠ Config.ifAddr := by decide

theorem isController_eq_false {a : Word} : isController a = false ↔ a ≠ Config.ieAddr ∧ a ≠ Config.ifAddr := by
  simp [isController]

theorem inOam_controller {a : Word} (h : inOam a = true) : isController a = false := by
  rw [isController_eq_false]
  constructor <;> (rintro rfl; revert h; decide)

/-- A read depends on memory, the controller registers and, at IE alone, the platform and the time. -/
theorem State.readAt_def (s : State) (n : Nat) (a : Word) :
    s.readAt n a = if a = Config.ieAddr then s.platform.ieUnusedBits n ++ s.ie
      else if a = Config.ifAddr then (7 : BitVec 3) ++ s.ifr else s.mem.read a.toNat := rfl

theorem State.read8_eq_readAt (s : State) (a : Word) : s.read8 a = s.readAt s.cycleCount a := rfl

theorem State.readAt_congr {s t : State} (hm : t.mem = s.mem) (he : t.ie = s.ie) (hf : t.ifr = s.ifr)
    (hp : t.platform = s.platform) (n : Nat) (a : Word) : t.readAt n a = s.readAt n a := by
  simp [State.readAt_def, hm, he, hf, hp]

/-- On the reference platform a read of IE answers IE with three zeros before it (R78). -/
theorem State.readIE_reference {s : State} (h : s.platform = .reference) : s.readIE = s.ie.setWidth 8 := by
  rw [State.readIE, h, Platform.ieUnusedBits]; generalize s.ie = x; revert x; decide

theorem State.readAt_eq_read8 {s : State} {a : Word} (h : isController a = false) (n : Nat) : s.readAt n a = s.read8 a := by
  rw [isController_eq_false] at h
  simp [State.readAt_def, State.read8, h.1, h.2]

theorem State.write8_ie_self (s : State) (v : Byte) : s.write8 Config.ieAddr v = s.writeIE v := rfl

theorem State.write8_ifr_self (s : State) (v : Byte) : s.write8 Config.ifAddr v = s.writeIF v := by
  simp [State.write8, ieAddr_ne_ifAddr.symm]

theorem State.write8_of_memory {s : State} {a : Word} (h : isController a = false) (v : Byte) :
    s.write8 a v = { s with mem := s.mem.write a.toNat v } := by
  rw [isController_eq_false] at h
  simp [State.write8, h.1, h.2]

/-- What a bus write makes of a field, address by address. -/
theorem State.write8_ie (s : State) (a : Word) (v : Byte) :
    (s.write8 a v).ie = if a = Config.ieAddr then v.extractLsb' 0 5 else s.ie := by
  unfold State.write8; split <;> [rfl; split <;> rfl]

theorem State.write8_ifr (s : State) (a : Word) (v : Byte) :
    (s.write8 a v).ifr = if a = Config.ifAddr then v.extractLsb' 0 5 else s.ifr := by
  unfold State.write8
  split
  · next h => subst h; rw [if_neg ieAddr_ne_ifAddr]; rfl
  · split <;> rfl

theorem State.write8_mem (s : State) (a : Word) (v : Byte) :
    (s.write8 a v).mem = if isController a then s.mem else s.mem.write a.toNat v := by
  unfold State.write8
  split
  · next h => simp [isController, h, State.writeIE]
  · split
    · next h => simp [isController, h, State.writeIF]
    · next h1 h2 => simp [isController, h1, h2]

/-- A bus write changes no other address. -/
theorem State.readAt_write8_of_ne (s : State) (n : Nat) {a x : Word} (v : Byte) (h : x ≠ a) :
    (s.write8 a v).readAt n x = s.readAt n x := by
  have hx : x.toNat ≠ a.toNat := fun e => h (BitVec.eq_of_toNat_eq e)
  rw [State.readAt_def, State.readAt_def, State.write8_ie, State.write8_ifr, State.write8_mem, State.write8_platform]
  split
  · next e => subst e; rw [if_neg h.symm]
  · split
    · next e => subst e; rw [if_neg h.symm]
    · split
      · rfl
      · exact Memory.read_write_of_ne _ _ hx

/-- A read of an ordinary address answers the latest write to it. -/
theorem State.readAt_write8_self (s : State) (n : Nat) {a : Word} (v : Byte) (h : isController a = false) :
    (s.write8 a v).readAt n a = v := by
  rw [State.write8_of_memory h]
  rw [isController_eq_false] at h
  simp [State.readAt_def, h.1, h.2]

theorem State.read8_write8_self (s : State) {a : Word} (v : Byte) (h : isController a = false) :
    (s.write8 a v).read8 a = v := by
  rw [State.read8_eq_readAt]; exact State.readAt_write8_self s _ v h

theorem State.read8_write8_of_ne (s : State) {a x : Word} (v : Byte) (h : x ≠ a) : (s.write8 a v).read8 x = s.read8 x := by
  rw [State.read8_eq_readAt, State.readAt_write8_of_ne s _ v h]; simp [State.read8_eq_readAt]

/-- A bus write keeps the canonical form. -/
theorem State.wf_write8 {s : State} (a : Word) (v : Byte) (h : s.mem.wf = true) : (s.write8 a v).mem.wf = true := by
  rw [State.write8_mem]; split
  · exact h
  · exact Memory.wf_write a.isLt h

/-! ### The quirk call -/

/-- A call that is not armed does nothing (R394). -/
theorem State.quirk_of_not_armed {s : State} {a : Word} (tag : QuirkTag) (h : ¬ armed s.platform s.cycleCount a) :
    s.quirk tag a = s := by
  unfold State.quirk
  split
  · next h1 =>
    split
    · next h2 => exact absurd ⟨h1, h2.1, h2.2⟩ h
    · rfl
  · rfl

/-- An armed call runs the routine on memory (R394). -/
theorem State.quirk_of_armed {s : State} {a : Word} (tag : QuirkTag) (h : armed s.platform s.cycleCount a) :
    s.quirk tag a = { s with mem := oamCorrupted tag (Config.ticksInLine s.cycleCount) s.mem } := by
  rw [State.quirk, if_pos h.1, if_pos h.2]

/-- A call outside the region does nothing (R394). -/
theorem State.quirk_of_not_inOam {s : State} {a : Word} (tag : QuirkTag) (h : inOam a = false) : s.quirk tag a = s :=
  State.quirk_of_not_armed tag fun ha => by simp [ha.1] at h

/-- No call is armed on the reference platform (R78). -/
theorem not_armed_reference (n : Nat) (a : Word) : ¬ armed .reference n a := fun h => Bool.noConfusion h.2.1

/-- All a call can do: nothing, or run the routine on memory, when it is armed. -/
theorem State.quirk_cases (s : State) (tag : QuirkTag) (a : Word) :
    s.quirk tag a = s ∨ armed s.platform s.cycleCount a ∧ ∃ k, s.quirk tag a = { s with mem := oamCorrupted tag k s.mem } := by
  by_cases h : armed s.platform s.cycleCount a
  · exact .inr ⟨h, Config.ticksInLine s.cycleCount, State.quirk_of_armed tag h⟩
  · exact .inl (State.quirk_of_not_armed tag h)

/-- A call changes memory only. -/
theorem State.quirk_eq (s : State) (tag : QuirkTag) (a : Word) : s.quirk tag a = { s with mem := (s.quirk tag a).mem } := by
  rcases s.quirk_cases tag a with h | ⟨-, k, h⟩
  · rw [h]
  · rw [h]

/-- A call changes no byte outside the region (R396). -/
theorem State.readAt_quirk (s : State) (tag : QuirkTag) (x : Word) (n : Nat) {a : Word} (h : inOam a = false) :
    (s.quirk tag x).readAt n a = s.readAt n a := by
  rcases s.quirk_cases tag x with e | ⟨-, k, e⟩
  · rw [e]
  · rw [e, State.readAt_def, State.readAt_def]
    simp only [read_oamCorrupted tag k s.mem h]

/-- A call keeps the canonical form. -/
theorem State.wf_quirk {s : State} (tag : QuirkTag) (a : Word) (h : s.mem.wf = true) : (s.quirk tag a).mem.wf = true := by
  rcases s.quirk_cases tag a with e | ⟨-, k, e⟩
  · rw [e]; exact h
  · rw [e]; simp only [wf_oamCorrupted tag k h]

/-! ### Events of the other collaborators -/

/-- Events keep the canonical form. -/
theorem State.wf_arrive {s : State} (h : s.mem.wf = true) : s.arrive.mem.wf = true := by
  unfold State.arrive
  split
  · exact h
  · next now later _ =>
    have key : ∀ (l : List Input) (u : State), u.mem.wf = true → (l.foldl State.applyInput u).mem.wf = true := by
      intro l
      induction l with
      | nil => exact fun u hu => hu
      | cons x l ih =>
        intro u hu
        rw [List.foldl_cons]
        refine ih _ ?_
        cases x with
        | request k => exact hu
        | write a v => exact State.wf_write8 a v hu
    exact key now _ h

end Sys2Proof.Machine
end

