-- ==== Sys2Proof/Laws/Exec.lean ====
section
/-! SUPPORT. `exec` by the operation of an instruction: 512 constructors, one lemma; and, of each operation, its next state. A
claim about `exec` starts by rewriting with `exec_eq_execForm` and goes on by cases on the operation. -/

namespace Sys2Proof.Machine

/-- The meaning of an operation. -/
def execForm : Form → State → Result
  | .nop => Machine.nop
  | .stop => Machine.stop
  | .halt => Machine.halt
  | .di => Machine.di
  | .ei => Machine.ei
  | .cbTable => Machine.cbTable
  | .unassigned op => Machine.unassigned op
  | .ldRegReg r r' => Machine.ldRegReg r r'
  | .ldRegImm r n => Machine.ldRegImm r n
  | .ldRegHl r => Machine.ldRegHl r
  | .ldHlReg r => Machine.ldHlReg r
  | .ldHlImm n => Machine.ldHlImm n
  | .ldAInd p => Machine.ldAInd p
  | .ldIndA p => Machine.ldIndA p
  | .ldAAbs a => Machine.ldAAbs a
  | .ldAbsA a => Machine.ldAbsA a
  | .ldhAImm a => Machine.ldhAImm a
  | .ldhImmA a => Machine.ldhImmA a
  | .ldhAC => Machine.ldhAC
  | .ldhCA => Machine.ldhCA
  | .ldPairImm rr n => Machine.ldPairImm rr n
  | .ldAbsSp a => Machine.ldAbsSp a
  | .ldSpHl => Machine.ldSpHl
  | .ldHlSpE e => Machine.ldHlSpE e
  | .push rr => Machine.push rr
  | .pop rr => Machine.pop rr
  | .aluReg op r => Machine.aluReg op r
  | .aluHl op => Machine.aluHl op
  | .aluImm op n => Machine.aluImm op n
  | .incReg r => Machine.incReg r
  | .incHl => Machine.incHl
  | .decReg r => Machine.decReg r
  | .decHl => Machine.decHl
  | .daa => Machine.daa
  | .cpl => Machine.cpl
  | .scf => Machine.scf
  | .ccf => Machine.ccf
  | .addHlPair rr => Machine.addHlPair rr
  | .incPair rr => Machine.incPair rr
  | .decPair rr => Machine.decPair rr
  | .addSpE e => Machine.addSpE e
  | .accRot op => Machine.accRot op
  | .rotReg op r => Machine.rotReg op r
  | .rotHl op => Machine.rotHl op
  | .bitReg b r => Machine.bitReg b r
  | .bitHl b => Machine.bitHl b
  | .resReg b r => Machine.resReg b r
  | .resHl b => Machine.resHl b
  | .setReg b r => Machine.setReg b r
  | .setHl b => Machine.setHl b
  | .jp a => Machine.jp a
  | .jpCond cc a => Machine.jpCond cc a
  | .jpHl => Machine.jpHl
  | .jr e => Machine.jr e
  | .jrCond cc e => Machine.jrCond cc e
  | .call a => Machine.call a
  | .callCond cc a => Machine.callCond cc a
  | .ret => Machine.ret
  | .retCond cc => Machine.retCond cc
  | .reti => Machine.reti
  | .rst t => Machine.rst t

/-- `exec` depends on an instruction through its operation only. -/
theorem exec_eq_execForm (i : Instr) (s : State) : exec i s = execForm i.form s := by cases i <;> rfl

theorem exec_of_form {i : Instr} {f : Form} (h : i.form = f) (s : State) : exec i s = execForm f s := by
  rw [exec_eq_execForm, h]

/-- The next state of an operation; for an unassigned opcode, which has none, the state itself. -/
def nextForm (f : Form) (s : State) : State :=
  match execForm f s with
  | .next t => t
  | _ => s

/-- Every operation but the unassigned opcodes answers a next state; those fault. -/
theorem execForm_cases (f : Form) (s : State) :
    (∃ op, f = .unassigned op ∧ execForm f s = .fault (.unknownOpcode op)) ∨ execForm f s = .next (nextForm f s) := by
  cases f <;> first
    | exact .inl ⟨_, rfl, rfl⟩
    | exact .inr rfl
    | (refine .inr ?_; simp only [nextForm, execForm, halt, jpCond, jrCond, callCond, retCond]; split <;> rfl)

theorem execForm_next {f : Form} {s t : State} (h : execForm f s = .next t) : t = nextForm f s := by
  simp [nextForm, h]

theorem exec_next {i : Instr} {s t : State} (h : exec i s = .next t) : t = nextForm i.form s :=
  execForm_next (exec_eq_execForm i s ▸ h)

/-- The operation of an unassigned row, and of no other. -/
theorem unassigned_iff {i : Instr} : i.unassigned = true ↔ ∃ op, i.form = .unassigned op := by
  unfold Instr.unassigned
  split
  · next op h => exact ⟨fun _ => ⟨op, h⟩, fun _ => rfl⟩
  · next h => exact ⟨fun h' => absurd h' (by simp), fun ⟨op, h'⟩ => absurd h' (h op)⟩

/-! ### The next state of each operation -/

@[simp] theorem nextForm_nop (s : State) : nextForm .nop s =
    s := rfl
@[simp] theorem nextForm_stop (s : State) : nextForm .stop s =
    { s with engine := .stopped } := rfl
@[simp] theorem nextForm_halt (s : State) : nextForm .halt s =
    if s.ime = false ∧ s.wakePending = true then { s with haltBug := true } else { s with engine := .halted } := by
  unfold nextForm
  rw [show execForm .halt s = Machine.halt s from rfl]
  unfold Machine.halt
  by_cases h : s.ime = false ∧ s.wakePending = true
  · rw [if_pos h, if_pos h]
  · rw [if_neg h, if_neg h]
@[simp] theorem nextForm_di (s : State) : nextForm .di s =
    s.disableImmediately := rfl
@[simp] theorem nextForm_ei (s : State) : nextForm .ei s =
    s.scheduleEnable true := rfl
@[simp] theorem nextForm_cbTable (s : State) : nextForm .cbTable s =
    { s with engine := .fetchExtendedPrefix } := rfl
@[simp] theorem nextForm_unassigned (s : State) (op : Byte) : nextForm (.unassigned op) s =
    s := rfl
@[simp] theorem nextForm_ldRegReg (s : State) (r r' : Reg8) : nextForm (.ldRegReg r r') s =
    s.setReg r (s.reg r') := rfl
@[simp] theorem nextForm_ldRegImm (s : State) (r : Reg8) (n : Byte) : nextForm (.ldRegImm r n) s =
    s.setReg r n := rfl
@[simp] theorem nextForm_ldRegHl (s : State) (r : Reg8) : nextForm (.ldRegHl r) s =
    s.nextCycle.setReg r (s.nextCycle.read8 s.hl) := rfl
@[simp] theorem nextForm_ldHlReg (s : State) (r : Reg8) : nextForm (.ldHlReg r) s =
    s.nextCycle.write8 s.hl (s.reg r) := rfl
@[simp] theorem nextForm_ldHlImm (s : State) (n : Byte) : nextForm (.ldHlImm n) s =
    s.nextCycle.write8 s.hl n := rfl
@[simp] theorem nextForm_ldAInd (s : State) (p : IndPtr) : nextForm (.ldAInd p) s =
    (s.nextCycle.setReg .a (s.nextCycle.read8 (s.indAddr p))).indAfter p := rfl
@[simp] theorem nextForm_ldIndA (s : State) (p : IndPtr) : nextForm (.ldIndA p) s =
    (s.nextCycle.write8 (s.indAddr p) s.a).indAfter p := rfl
@[simp] theorem nextForm_ldAAbs (s : State) (a : Word) : nextForm (.ldAAbs a) s =
    s.nextCycle.setReg .a (s.nextCycle.read8 a) := rfl
@[simp] theorem nextForm_ldAbsA (s : State) (a : Word) : nextForm (.ldAbsA a) s =
    s.nextCycle.write8 a s.a := rfl
@[simp] theorem nextForm_ldhAImm (s : State) (a : Byte) : nextForm (.ldhAImm a) s =
    s.nextCycle.setReg .a (s.nextCycle.read8 (highPage a)) := rfl
@[simp] theorem nextForm_ldhImmA (s : State) (a : Byte) : nextForm (.ldhImmA a) s =
    s.nextCycle.write8 (highPage a) s.a := rfl
@[simp] theorem nextForm_ldhAC (s : State) : nextForm .ldhAC s =
    s.nextCycle.setReg .a (s.nextCycle.read8 (highPage s.c)) := rfl
@[simp] theorem nextForm_ldhCA (s : State) : nextForm .ldhCA s =
    s.nextCycle.write8 (highPage s.c) s.a := rfl
@[simp] theorem nextForm_ldPairImm (s : State) (rr : Reg16) (n : Word) : nextForm (.ldPairImm rr n) s =
    (s.quirk .ld16 n).setPair rr n := rfl
@[simp] theorem nextForm_ldAbsSp (s : State) (a : Word) : nextForm (.ldAbsSp a) s =
    (s.nextCycle.write8 a (loByte s.sp)).nextCycle.write8 (a + 1) (hiByte s.sp) := rfl
@[simp] theorem nextForm_ldSpHl (s : State) : nextForm .ldSpHl s =
    { s.nextCycle with sp := s.hl } := rfl
@[simp] theorem nextForm_ldHlSpE (s : State) (e : Byte) : nextForm (.ldHlSpE e) s =
    (s.nextCycle.setFlags (addSpe s.sp e).2).setHl (addSpe s.sp e).1 := rfl
@[simp] theorem nextForm_push (s : State) (rr : StackReg) : nextForm (.push rr) s =
    s.nextCycle.push16 (s.stackPair rr) := rfl
@[simp] theorem nextForm_pop (s : State) (rr : StackReg) : nextForm (.pop rr) s =
    s.pop16Next.setStackPair rr s.pop16Value := rfl
@[simp] theorem nextForm_aluReg (s : State) (op : AluOp) (r : Reg8) : nextForm (.aluReg op r) s =
    s.applyAlu op (s.reg r) := rfl
@[simp] theorem nextForm_aluHl (s : State) (op : AluOp) : nextForm (.aluHl op) s =
    s.nextCycle.applyAlu op (s.nextCycle.read8 s.hl) := rfl
@[simp] theorem nextForm_aluImm (s : State) (op : AluOp) (n : Byte) : nextForm (.aluImm op n) s =
    s.applyAlu op n := rfl
@[simp] theorem nextForm_incReg (s : State) (r : Reg8) : nextForm (.incReg r) s =
    (s.setReg r (inc8 (s.reg r) s.flagC).1).setFlags (inc8 (s.reg r) s.flagC).2 := rfl
@[simp] theorem nextForm_incHl (s : State) : nextForm .incHl s =
    (s.nextCycle.nextCycle.write8 s.hl (inc8 (s.nextCycle.read8 s.hl) s.flagC).1).setFlags (inc8 (s.nextCycle.read8 s.hl) s.flagC).2 := rfl
@[simp] theorem nextForm_decReg (s : State) (r : Reg8) : nextForm (.decReg r) s =
    (s.setReg r (dec8 (s.reg r) s.flagC).1).setFlags (dec8 (s.reg r) s.flagC).2 := rfl
@[simp] theorem nextForm_decHl (s : State) : nextForm .decHl s =
    (s.nextCycle.nextCycle.write8 s.hl (dec8 (s.nextCycle.read8 s.hl) s.flagC).1).setFlags (dec8 (s.nextCycle.read8 s.hl) s.flagC).2 := rfl
@[simp] theorem nextForm_daa (s : State) : nextForm .daa s =
    s.putA (daa8 s.a s.flags) := rfl
@[simp] theorem nextForm_cpl (s : State) : nextForm .cpl s =
    ((s.setReg .a (~~~ s.a)).setFlagN true).setFlagH true := rfl
@[simp] theorem nextForm_scf (s : State) : nextForm .scf s =
    ((s.setFlagN false).setFlagH false).setFlagC true := rfl
@[simp] theorem nextForm_ccf (s : State) : nextForm .ccf s =
    ((s.setFlagN false).setFlagH false).setFlagC (!s.flagC) := rfl
@[simp] theorem nextForm_addHlPair (s : State) (rr : Reg16) : nextForm (.addHlPair rr) s =
    (s.nextCycle.setFlags (addHl16 s.hl (s.pair rr) s.flagZ).2).setHl (addHl16 s.hl (s.pair rr) s.flagZ).1 := rfl
@[simp] theorem nextForm_incPair (s : State) (rr : Reg16) : nextForm (.incPair rr) s =
    (s.nextCycle.quirk .incDec (s.pair rr)).setPair rr (s.pair rr + 1) := rfl
@[simp] theorem nextForm_decPair (s : State) (rr : Reg16) : nextForm (.decPair rr) s =
    (s.nextCycle.quirk .incDec (s.pair rr)).setPair rr (s.pair rr - 1) := rfl
@[simp] theorem nextForm_addSpE (s : State) (e : Byte) : nextForm (.addSpE e) s =
    { s.nextCycle.nextCycle.setFlags (addSpe s.sp e).2 with sp := (addSpe s.sp e).1 } := rfl
@[simp] theorem nextForm_accRot (s : State) (op : AccRotOp) : nextForm (.accRot op) s =
    (s.setReg .a (accRot8 op s.a s.flagC).1).setFlags (accRot8 op s.a s.flagC).2 := rfl
@[simp] theorem nextForm_rotReg (s : State) (op : RotOp) (r : Reg8) : nextForm (.rotReg op r) s =
    (s.setReg r (rot8 op (s.reg r) s.flagC).1).setFlags (rot8 op (s.reg r) s.flagC).2 := rfl
@[simp] theorem nextForm_rotHl (s : State) (op : RotOp) : nextForm (.rotHl op) s =
    (s.nextCycle.nextCycle.write8 s.hl (rot8 op (s.nextCycle.read8 s.hl) s.flagC).1).setFlags (rot8 op (s.nextCycle.read8 s.hl) s.flagC).2 := rfl
@[simp] theorem nextForm_bitReg (s : State) (b : BitVec 3) (r : Reg8) : nextForm (.bitReg b r) s =
    s.setFlags (bitFlags b (s.reg r) s.flagC) := rfl
@[simp] theorem nextForm_bitHl (s : State) (b : BitVec 3) : nextForm (.bitHl b) s =
    s.nextCycle.setFlags (bitFlags b (s.nextCycle.read8 s.hl) s.flagC) := rfl
@[simp] theorem nextForm_resReg (s : State) (b : BitVec 3) (r : Reg8) : nextForm (.resReg b r) s =
    s.setReg r (resBit b (s.reg r)) := rfl
@[simp] theorem nextForm_resHl (s : State) (b : BitVec 3) : nextForm (.resHl b) s =
    s.nextCycle.nextCycle.write8 s.hl (resBit b (s.nextCycle.read8 s.hl)) := rfl
@[simp] theorem nextForm_setReg (s : State) (b : BitVec 3) (r : Reg8) : nextForm (.setReg b r) s =
    s.setReg r (setBit b (s.reg r)) := rfl
@[simp] theorem nextForm_setHl (s : State) (b : BitVec 3) : nextForm (.setHl b) s =
    s.nextCycle.nextCycle.write8 s.hl (setBit b (s.nextCycle.read8 s.hl)) := rfl
@[simp] theorem nextForm_jp (s : State) (a : Word) : nextForm (.jp a) s =
    { s.nextCycle with pc := a } := rfl
@[simp] theorem nextForm_jpCond (s : State) (cc : Cond) (a : Word) : nextForm (.jpCond cc a) s =
    if s.cond cc then { s.nextCycle with pc := a } else s := by
  by_cases h : s.cond cc = true <;> simp [nextForm, execForm, Machine.jpCond, Machine.jp, h]
@[simp] theorem nextForm_jpHl (s : State) : nextForm .jpHl s =
    { s with pc := s.hl } := rfl
@[simp] theorem nextForm_jr (s : State) (e : Byte) : nextForm (.jr e) s =
    { s.nextCycle with pc := s.pc + sext16 e } := rfl
@[simp] theorem nextForm_jrCond (s : State) (cc : Cond) (e : Byte) : nextForm (.jrCond cc e) s =
    if s.cond cc then { s.nextCycle with pc := s.pc + sext16 e } else s := by
  by_cases h : s.cond cc = true <;> simp [nextForm, execForm, Machine.jrCond, Machine.jr, h]
@[simp] theorem nextForm_call (s : State) (a : Word) : nextForm (.call a) s =
    s.callTo a := rfl
@[simp] theorem nextForm_callCond (s : State) (cc : Cond) (a : Word) : nextForm (.callCond cc a) s =
    if s.cond cc then s.callTo a else s := by
  by_cases h : s.cond cc = true <;> simp [nextForm, execForm, Machine.callCond, Machine.call, h]
@[simp] theorem nextForm_ret (s : State) : nextForm .ret s =
    { s.pop16Next.nextCycle with pc := s.pop16Value } := rfl
@[simp] theorem nextForm_retCond (s : State) (cc : Cond) : nextForm (.retCond cc) s =
    if s.cond cc then { s.nextCycle.pop16Next.nextCycle with pc := s.nextCycle.pop16Value } else s.nextCycle := by
  by_cases h : s.cond cc = true <;> simp [nextForm, execForm, Machine.retCond, Machine.ret, h]
@[simp] theorem nextForm_reti (s : State) : nextForm .reti s =
    s.pop16Next.nextCycle.returnFromInterrupt s.pop16Value := rfl
@[simp] theorem nextForm_rst (s : State) (t : BitVec 3) : nextForm (.rst t) s =
    s.callTo (rstTarget t) := rfl

end Sys2Proof.Machine
end

