-- ==== Sys2Proof/Laws/Ops.lean ====
section
/-! SUPPORT. What the shared operations do, once for each: addresses and targets, the deferred enable, the pushes and pops, the
phases of the dispatch, the fetch of an instruction's bytes, and the step at a boundary. -/

namespace Sys2Proof.Machine

/-! ### Words -/

theorem word_sub_one_sub_one (x : Word) : x - 1 - 1 = x - 2 := by bv_omega

theorem word_add_one_add_one (x : Word) : x + 1 + 1 = x + 2 := by bv_omega

theorem word_sub_one_add_one (x : Word) : x - 1 + 1 = x := by bv_omega

theorem word_sub_two_add_one (x : Word) : x - 2 + 1 = x - 1 := by bv_omega

theorem word_sub_one_ne_sub_two (x : Word) : x - 1 ≠ x - 2 := by bv_omega

/-- The high-page address in the spec's own form (R171 to R174). -/
theorem highPage_eq (v : Byte) : highPage v = 0xFF00 ||| v.setWidth 16 := by revert v; decide

/-- The target of an RST as a shift of its field (R291). -/
theorem rstTarget_eq (t : BitVec 3) : rstTarget t = t.setWidth 16 <<< 3 := by revert t; decide

/-- The vector in the form of R333. -/
theorem vector_eq (k : Irq) : vector k = 0x0040 + 8 * BitVec.ofNat 16 k.val := by revert k; decide

theorem nextCycle_eq (s : State) : s.nextCycle = { s with cycleCount := s.cycleCount + 4 } := rfl

/-! ### The interrupt controller -/

theorem State.scheduleEnable_false (s : State) : s.scheduleEnable false = { s with ime := true, imeSched := .none } := rfl

/-- EI changes the slot only. -/
theorem State.scheduleEnable_true (s : State) :
    s.scheduleEnable true = { s with imeSched := if s.ime = false ∧ s.imeSched = .none then .armed else s.imeSched } := by
  simp only [State.scheduleEnable, if_true]; split <;> rfl

/-- What the completion of an instruction makes of the slot and of IME. -/
theorem State.instructionFinished_eq (s : State) :
    s.instructionFinished = { s with ime := s.ime || decide (s.imeSched = .due),
                                     imeSched := if s.imeSched = .armed then .due else .none } := by
  unfold State.instructionFinished
  split
  · next h => simp [h]
  · next h => simp [h]
  · next h => rw [h]; cases s; simp_all

/-- The chosen source is pending and enabled, and no lower one is (R342). -/
theorem lowest_spec : ∀ pe : BitVec 5, pe ≠ 0 →
    pe.getLsbD (lowest pe).val = true ∧ ∀ j : Irq, j < lowest pe → pe.getLsbD j.val = false := by decide

theorem getLsbD_or_irqMask : ∀ (x : BitVec 5) (k j : Irq),
    (x ||| irqMask k).getLsbD j.val = (x.getLsbD j.val || decide (j = k)) := by decide

theorem getLsbD_clear_irqMask : ∀ (x : BitVec 5) (k j : Irq),
    (x &&& ~~~ irqMask k).getLsbD j.val = (x.getLsbD j.val && decide (j ≠ k)) := by decide

/-- A source whose bit is set makes the masked register nonzero. -/
theorem ne_zero_of_getLsbD {x : BitVec 5} {j : Nat} (h : x.getLsbD j = true) : x ≠ 0 := by
  rintro rfl; simp at h

/-! ### Taking an interrupt -/

/-- Dispatch_IE with nothing pending and enabled (R346). -/
theorem State.phaseIe_of_none {s : State} (h : s.pe = 0) : s.phaseIe = { s with engine := .fetch } := if_pos h

/-- Dispatch_IE with a source to take (R346). -/
theorem State.phaseIe_of_pending {s : State} (h : s.pe ≠ 0) :
    s.phaseIe = { s with irqIdx := lowest s.pe, ifr := s.ifr &&& ~~~ irqMask (lowest s.pe), ime := false,
                         imeSched := .none, engine := .dispatchPush1 } := if_neg h

/-- A dispatch whose stack is not at a controller register, as one update (R350). -/
theorem State.takeInterrupt_eq {s : State} (h : s.pe ≠ 0) (h1 : isController (s.sp - 1) = false)
    (h2 : isController (s.sp - 2) = false) :
    s.takeInterrupt =
      { s with sp := s.sp - 2, pc := vector (lowest s.pe), engine := .fetch, ime := false, imeSched := .none,
               ifr := s.ifr &&& ~~~ irqMask (lowest s.pe), irqIdx := lowest s.pe, cycleCount := s.cycleCount + 20,
               mem := (s.mem.write (s.sp - 1).toNat (hiByte s.pc)).write (s.sp - 2).toNat (loByte s.pc) } := by
  have e : s.nextCycle.phaseIf.nextCycle.phaseIe =
      { s with cycleCount := s.cycleCount + 8, irqIdx := lowest s.pe, ifr := s.ifr &&& ~~~ irqMask (lowest s.pe),
               ime := false, imeSched := .none, engine := .dispatchPush1 } := by
    rw [State.phaseIe_of_pending (s := s.nextCycle.phaseIf.nextCycle) h]; rfl
  unfold State.takeInterrupt
  rw [e]
  simp only [State.phasePush1, State.phasePush2, State.nextCycle, State.phaseJump, Config.ticksPerMCycle,
    word_sub_one_sub_one, State.write8_of_memory h1, State.write8_of_memory h2]

/-! ### Pushes and pops -/

/-- A push, cycle by cycle, after an internal cycle (R190, R195, R286). -/
theorem State.push16_eq (s : State) (v : Word) : s.nextCycle.push16 v =
    (let s1 := State.quirk .push1 s.sp { s with cycleCount := s.cycleCount + 8 }
    let s2 := State.write8 { s1 with sp := s.sp - 1 } (s.sp - 1) (hiByte v)
    let s3 := State.quirk .push2 (s.sp - 1) { s2 with cycleCount := s.cycleCount + 12 }
    State.write8 { s3 with sp := s.sp - 2 } (s.sp - 2) (loByte v)) := by
  have h1 : s.nextCycle.nextCycle = { s with cycleCount := s.cycleCount + 8 } := rfl
  simp only [State.push16, State.pushHi, State.pushLo, h1, State.pushByte]
  generalize hu : State.write8 { State.quirk .push1 s.sp { s with cycleCount := s.cycleCount + 8 } with sp := s.sp - 1 }
    (s.sp - 1) (hiByte v) = u
  have hc : u.cycleCount = s.cycleCount + 8 := by rw [← hu]; simp
  have hs : u.sp = s.sp - 1 := by rw [← hu]; simp
  have h2 : u.nextCycle = { u with cycleCount := s.cycleCount + 12 } := by
    simp only [State.nextCycle, hc, Config.ticksPerMCycle]
  rw [h2]
  simp only [hs, word_sub_one_sub_one]

/-- A pop, cycle by cycle (R190, R196, R288). -/
theorem State.pop16_eq (s : State) :
    (let s1 := State.quirk .pop1 s.sp { s with cycleCount := s.cycleCount + 4 }
      let s2 := State.quirk .pop2 (s.sp + 1) { s1 with sp := s.sp + 1, cycleCount := s.cycleCount + 8 }
      s.pop16Next = { s2 with sp := s.sp + 2 } ∧ s.pop16Value = s2.read8 (s.sp + 1) ++ s1.read8 s.sp) := by
  have h1 : s.nextCycle = { s with cycleCount := s.cycleCount + 4 } := rfl
  generalize hu : State.quirk .pop1 s.sp { s with cycleCount := s.cycleCount + 4 } = u
  have hc : u.cycleCount = s.cycleCount + 4 := by rw [← hu]; simp
  simp only [State.pop16Next, State.pop16Value, State.popNext, State.popValue, h1, joinBytes, hu]
  have h2 : State.nextCycle { u with sp := s.sp + 1 } = { u with sp := s.sp + 1, cycleCount := s.cycleCount + 8 } := by
    simp only [State.nextCycle, hc, Config.ticksPerMCycle]
  simp only [h2, word_add_one_add_one]
  exact ⟨trivial, trivial⟩

/-! ### Results and their flags -/

/-- The flags of a state whose F is a packed set of flags. -/
theorem FlagsAre.of_pack {s : State} {x : Flags} (h : s.f = x.pack) {z n hc c : Bool} (h1 : x.z = z) (h2 : x.n = n)
    (h3 : x.h = hc) (h4 : x.c = c) : FlagsAre s z n hc c := by
  obtain ⟨a1, a2, a3, a4, a5⟩ := State.flags_of_f h
  exact ⟨a1.trans h1, a2.trans h2, a3.trans h3, a4.trans h4, a5⟩

/-- The three forms of R205 are one operation on A and an operand. -/
theorem AluOperand.exec_eq {i : Instr} {s s0 : State} {op : AluOp} {b : Byte} (h : AluOperand i s op b s0) :
    exec i s = .next (s0.applyAlu op b) ∧ s0.a = s.a ∧ s0.f = s.f := by
  rcases h with ⟨r, h, rfl, rfl⟩ | ⟨h, rfl, rfl⟩ | ⟨h, rfl⟩ <;> rw [exec_of_form h] <;> exact ⟨rfl, rfl, rfl⟩

/-! ### Instructions that are alone in their operation -/

theorem eq_di_of_form {i : Instr} (h : i.form = .di) : i = .di := by cases i <;> first | rfl | cases h
theorem eq_ei_of_form {i : Instr} (h : i.form = .ei) : i = .ei := by cases i <;> first | rfl | cases h
theorem eq_reti_of_form {i : Instr} (h : i.form = .reti) : i = .reti := by cases i <;> first | rfl | cases h
theorem eq_halt_of_form {i : Instr} (h : i.form = .halt) : i = .halt := by cases i <;> first | rfl | cases h
theorem eq_stop_of_form {i : Instr} (h : i.form = .stop) : i = .stop := by cases i <;> first | rfl | cases h
theorem eq_prefixCb_of_form {i : Instr} (h : i.form = .cbTable) : i = .prefixCb := by cases i <;> first | rfl | cases h

/-! ### Fetching -/

theorem operandBytes_length (k : Nat) (s : State) : (operandBytes k s).length = k := by
  induction k generalizing s with
  | zero => rfl
  | succ k ih => simp [operandBytes, ih]

/-- Reading operand bytes moves PC and the time only. -/
theorem afterOperands_eq (k : Nat) (s : State) :
    afterOperands k s = { s with pc := s.pc + BitVec.ofNat 16 k, cycleCount := s.cycleCount + 4 * k } := by
  induction k generalizing s with
  | zero => simp [afterOperands]
  | succ k ih =>
    rw [afterOperands, ih]
    simp only [State.afterOperand, State.nextCycle, Config.ticksPerMCycle]
    congr 1
    · rw [BitVec.add_assoc, BitVec.add_comm 1, BitVec.ofNat_add]; rfl
    · omega

/-- What lies at an address depends on memory, the controller registers and the platform only. -/
theorem State.holdsAt_congr {s t : State} (hm : t.mem = s.mem) (he : t.ie = s.ie) (hf : t.ifr = s.ifr)
    (hp : t.platform = s.platform) {n : Nat} {a : Word} {bytes : List Byte} (h : s.holdsAt n a bytes) : t.holdsAt n a bytes := by
  induction bytes generalizing n a with
  | nil => trivial
  | cons b rest ih => exact ⟨(State.readAt_congr hm he hf hp n a).trans h.1, ih h.2⟩

/-- The operand bytes a fetch reads are those that lie at PC. -/
theorem operandBytes_eq_of_holdsAt {s t : State} {n : Nat} {a : Word} {bytes : List Byte} (h : t.holdsAt n a bytes)
    (hn : s.cycleCount + 4 = n) (ha : s.pc = a) (hm : s.mem = t.mem) (he : s.ie = t.ie) (hf : s.ifr = t.ifr)
    (hp : s.platform = t.platform) :
    operandBytes bytes.length s = bytes := by
  induction bytes generalizing s n a with
  | nil => rfl
  | cons b rest ih =>
    subst hn ha
    simp only [List.length_cons, operandBytes]
    congr 1
    · rw [← h.1]; exact State.readAt_congr hm he hf hp _ _
    · exact ih h.2 rfl rfl hm he hf hp

/-- After the opcode fetch: the marker is consumed, PC has moved unless it was set (R125). -/
theorem State.afterOpcode_eq (s : State) :
    s.afterOpcode = { s with haltBug := false, pc := if s.haltBug then s.pc else s.pc + 1 } := by
  unfold State.afterOpcode
  split
  · rfl
  · next h => rw [Bool.not_eq_true] at h; rw [← h]

/-- The bytes of a whole instruction: a first byte, and as many more as it calls for (R106). -/
theorem encode_cons {i : Instr} (hw : i.wellFormed = true) :
    ∃ b more, encode i = b :: more ∧ more.length = bytesAfter b := by
  cases i
  all_goals first
    | exact ⟨_, _, rfl, rfl⟩
    | exact absurd hw (by decide)

/-- The state in which the meaning of the instruction at PC starts. -/
theorem State.afterFetch_eq (s : State) :
    s.afterFetch = { s with haltBug := false,
                            pc := (if s.haltBug then s.pc else s.pc + 1) + BitVec.ofNat 16 (bytesAfter s.opcode),
                            cycleCount := s.cycleCount + 4 + 4 * bytesAfter s.opcode } := by
  rw [State.afterFetch, afterOperands_eq, State.afterOpcode_eq]; rfl

/-- A fetch reads the encoding of the instruction that lies at PC (R125, R137). -/
theorem State.instrBytes_eq {s : State} {i : Instr} {b : Byte} {more : List Byte} (hw : i.wellFormed = true)
    (he : encode i = b :: more) (hb : s.readAt (s.cycleCount + 4) s.pc = b)
    (hm : s.holdsAt (s.cycleCount + 8) (if s.haltBug then s.pc else s.pc + 1) more) :
    s.opcode = b ∧ s.instrBytes = encode i ∧ bytesAfter s.opcode = more.length := by
  have ho : s.opcode = b := hb
  obtain ⟨b', more', h1, h2⟩ := encode_cons hw
  rw [he] at h1
  obtain ⟨rfl, rfl⟩ : b = b' ∧ more = more' := by simpa using h1
  refine ⟨ho, ?_, by rw [ho, h2]⟩
  unfold State.instrBytes
  rw [ho, he, ← h2]
  congr 1
  rw [State.afterOpcode_eq]
  exact operandBytes_eq_of_holdsAt hm rfl rfl rfl rfl rfl rfl

/-! ### The step -/

/-- At a boundary a step is `boundaryStep` of the state in which the events due have arrived. -/
theorem step_of_boundary {s : State} (h : s.atBoundary = true) : step s = boundaryStep s.arrive := if_pos h

/-- Off a boundary a step is one machine cycle of the engine. -/
theorem step_of_not_boundary {s : State} (h : s.atBoundary = false) : step s = machineCycle s.nextCycle := by
  simp [step, stepFrom, h]

/-- Without a deliverable interrupt a step from Fetch runs the instruction at PC. -/
theorem boundaryStep_of_fetch {s : State} (he : s.engine = .fetch) (hd : s.deliverable = false) :
    boundaryStep s = runInstruction s := by
  simp [boundaryStep, he, hd]

/-- A deliverable interrupt comes first. -/
theorem boundaryStep_of_deliverable {s : State} (hd : s.deliverable = true) : boundaryStep s = .next s.takeInterrupt := by
  simp [boundaryStep, hd]

/-- A halted engine that no interrupt and no wake leaves idles (R359). -/
theorem boundaryStep_of_halted_idle {s : State} (he : s.engine = .halted) (hd : s.deliverable = false)
    (hw : s.wakePending = false) : boundaryStep s = .next s.nextCycle := by
  simp [boundaryStep, he, hd, hw]

/-- A halted engine that wakes runs the instruction at PC (R361). -/
theorem boundaryStep_of_wake {s : State} (he : s.engine = .halted) (hd : s.deliverable = false)
    (hw : s.wakePending = true) : boundaryStep s = runInstruction { s with engine := .fetch } := by
  simp [boundaryStep, he, hd, hw]

/-- A stopped engine without a deliverable interrupt idles (R360). -/
theorem boundaryStep_of_stopped_idle {s : State} (he : s.engine = .stopped) (hd : s.deliverable = false) :
    boundaryStep s = .next s.nextCycle := by
  simp [boundaryStep, he, hd]

theorem finish_next {r : Result} {t : State} (h : finish r = .next t) : ∃ u, r = .next u ∧ t = u.instructionFinished := by
  cases r with
  | next u => exact ⟨u, rfl, by simpa [finish] using h.symm⟩
  | fault f => simp [finish] at h
  | refused q => simp [finish] at h

end Sys2Proof.Machine
end

