-- ==== Sys2Proof/Laws/Engine.lean ====
section
/-! SUPPORT. The engine: all that one micro-step, one meaning and one phase can do to what the invariant speaks of, once for
each. -/

namespace Sys2Proof.Machine

/-- All that one micro-step of a longer instruction can do to the engine's own state and to what the invariant speaks of. -/
structure MicroFrame (s t : State) : Prop where
  engine : t.engine = s.engine
  cur : t.cur = s.cur
  stepIdx : t.stepIdx = s.stepIdx
  haltBug : t.haltBug = s.haltBug
  inputs : t.inputs = s.inputs
  tickDiv : t.tickDiv = s.tickDiv
  cycleCount : t.cycleCount = s.cycleCount
  irqIdx : t.irqIdx = s.irqIdx
  platform : t.platform = s.platform
  mem_wf : s.mem.wf = true → t.mem.wf = true
  f_low : s.f.extractLsb' 0 4 = 0 → t.f.extractLsb' 0 4 = 0
  sched : t.ime = s.ime ∧ t.imeSched = s.imeSched ∨ t.ime = true ∧ t.imeSched = .none

theorem MicroFrame.refl (s : State) : MicroFrame s s := ⟨rfl, rfl, rfl, rfl, rfl, rfl, rfl, rfl, rfl, id, id, .inl ⟨rfl, rfl⟩⟩

theorem MicroFrame.trans {s t u : State} (h : MicroFrame s t) (g : MicroFrame t u) : MicroFrame s u :=
  ⟨g.engine.trans h.engine, g.cur.trans h.cur, g.stepIdx.trans h.stepIdx, g.haltBug.trans h.haltBug, g.inputs.trans h.inputs,
    g.tickDiv.trans h.tickDiv, g.cycleCount.trans h.cycleCount, g.irqIdx.trans h.irqIdx, g.platform.trans h.platform, fun x => g.mem_wf (h.mem_wf x),
    fun x => g.f_low (h.f_low x), by
      rcases g.sched with g' | g'
      · rw [g'.1, g'.2]; exact h.sched
      · exact .inr g'⟩

theorem MicroFrame.setReg (r : Reg8) (v : Byte) (s : State) : MicroFrame s (s.setReg r v) := by
  refine ⟨?_, ?_, ?_, ?_, ?_, ?_, ?_, ?_, ?_, ?_, ?_, .inl ⟨?_, ?_⟩⟩ <;> simp
theorem MicroFrame.write8 (a : Word) (v : Byte) (s : State) : MicroFrame s (s.write8 a v) := by
  refine ⟨?_, ?_, ?_, ?_, ?_, ?_, ?_, ?_, ?_, State.wf_write8 a v, ?_, .inl ⟨?_, ?_⟩⟩ <;> simp
theorem MicroFrame.quirk (tag : QuirkTag) (a : Word) (s : State) : MicroFrame s (s.quirk tag a) := by
  refine ⟨?_, ?_, ?_, ?_, ?_, ?_, ?_, ?_, ?_, State.wf_quirk tag a, ?_, .inl ⟨?_, ?_⟩⟩ <;> simp
theorem MicroFrame.setFlags (x : Flags) (s : State) : MicroFrame s (s.setFlags x) := by
  refine ⟨?_, ?_, ?_, ?_, ?_, ?_, ?_, ?_, ?_, ?_, ?_, .inl ⟨?_, ?_⟩⟩ <;> simp
theorem MicroFrame.setPair (rr : Reg16) (v : Word) (s : State) : MicroFrame s (s.setPair rr v) := by
  refine ⟨?_, ?_, ?_, ?_, ?_, ?_, ?_, ?_, ?_, ?_, ?_, .inl ⟨?_, ?_⟩⟩ <;> simp
theorem MicroFrame.setHl (v : Word) (s : State) : MicroFrame s (s.setHl v) := by
  refine ⟨?_, ?_, ?_, ?_, ?_, ?_, ?_, ?_, ?_, ?_, ?_, .inl ⟨?_, ?_⟩⟩ <;> simp
theorem MicroFrame.indAfter (p : IndPtr) (s : State) : MicroFrame s (s.indAfter p) := by
  refine ⟨?_, ?_, ?_, ?_, ?_, ?_, ?_, ?_, ?_, ?_, ?_, .inl ⟨?_, ?_⟩⟩ <;> simp
theorem and_F0_low : ∀ v : Byte, (v &&& 0xF0).extractLsb' 0 4 = 0 := by decide
theorem MicroFrame.setStackPair (rr : StackReg) (v : Word) (s : State) : MicroFrame s (s.setStackPair rr v) := by
  refine ⟨?_, ?_, ?_, ?_, ?_, ?_, ?_, ?_, ?_, ?_, fun h => ?_, .inl ⟨?_, ?_⟩⟩
  case refine_11 => cases rr <;> first | exact h | exact and_F0_low _
  all_goals simp
theorem MicroFrame.pc (v : Word) (s : State) : MicroFrame s { s with pc := v } := by
  refine ⟨?_, ?_, ?_, ?_, ?_, ?_, ?_, ?_, ?_, ?_, ?_, .inl ⟨?_, ?_⟩⟩ <;> simp
theorem MicroFrame.sp (v : Word) (s : State) : MicroFrame s { s with sp := v } := by
  refine ⟨?_, ?_, ?_, ?_, ?_, ?_, ?_, ?_, ?_, ?_, ?_, .inl ⟨?_, ?_⟩⟩ <;> simp
theorem MicroFrame.w (v : Byte) (s : State) : MicroFrame s { s with w := v } := by
  refine ⟨?_, ?_, ?_, ?_, ?_, ?_, ?_, ?_, ?_, ?_, ?_, .inl ⟨?_, ?_⟩⟩ <;> simp
theorem MicroFrame.z (v : Byte) (s : State) : MicroFrame s { s with z := v } := by
  refine ⟨?_, ?_, ?_, ?_, ?_, ?_, ?_, ?_, ?_, ?_, ?_, .inl ⟨?_, ?_⟩⟩ <;> simp
theorem MicroFrame.applyAlu (op : AluOp) (b : Byte) (s : State) : MicroFrame s (s.applyAlu op b) := by
  cases op <;> (refine ⟨?_, ?_, ?_, ?_, ?_, ?_, ?_, ?_, ?_, ?_, ?_, .inl ⟨?_, ?_⟩⟩ <;> simp [State.applyAlu, State.putA])
theorem MicroFrame.pushByte (tag : QuirkTag) (v : Byte) (s : State) : MicroFrame s (s.pushByte tag v) :=
  ((MicroFrame.quirk tag s.sp s).trans (MicroFrame.sp _ _)).trans (MicroFrame.write8 _ _ _)
theorem MicroFrame.popNext (tag : QuirkTag) (s : State) : MicroFrame s (s.popNext tag) :=
  (MicroFrame.quirk tag s.sp s).trans (MicroFrame.sp _ _)
theorem MicroFrame.readZ (s : State) : MicroFrame s s.readZ := (MicroFrame.z (s.read8 s.pc) s).trans (MicroFrame.pc _ _)
theorem MicroFrame.readW (s : State) : MicroFrame s s.readW := (MicroFrame.w (s.read8 s.pc) s).trans (MicroFrame.pc _ _)
theorem MicroFrame.popHi (s : State) : MicroFrame s s.popHi := (MicroFrame.popNext .pop2 s).trans (MicroFrame.w _ _)
theorem MicroFrame.popLo (s : State) : MicroFrame s s.popLo := (MicroFrame.popNext .pop1 s).trans (MicroFrame.z _ _)
theorem MicroFrame.ret (v : Word) (s : State) : MicroFrame s (s.returnFromInterrupt v) :=
  ⟨rfl, rfl, rfl, rfl, rfl, rfl, rfl, rfl, rfl, id, id, .inr ⟨rfl, rfl⟩⟩

/-! ### Micro-steps -/

/-- One micro-step of a row of more than one machine cycle goes on or aborts, within the frame; it never faults. -/
theorem microStep_frame {f : Form} (hf : 4 < formCycles f) {m : MicroStep} (hm : m ∈ formSteps f) (s : State) :
    ∃ t, (m s = .go t ∨ m s = .abort t) ∧ MicroFrame s t := by
  have cond : ∀ (cc : Cond) (u : State), MicroFrame s u → ∃ t, (abortUnless cc u = .go t ∨ abortUnless cc u = .abort t) ∧ MicroFrame s t := by
    intro cc u h
    unfold abortUnless
    split
    · exact ⟨u, .inl rfl, h⟩
    · exact ⟨u, .inr rfl, h⟩
  have idle : ∃ t, (stepIdle s = .go t ∨ stepIdle s = .abort t) ∧ MicroFrame s t := ⟨s, .inl rfl, .refl s⟩
  have rz : ∃ t, (stepReadZ s = .go t ∨ stepReadZ s = .abort t) ∧ MicroFrame s t := ⟨_, .inl rfl, .readZ s⟩
  have rw' : ∃ t, (stepReadW s = .go t ∨ stepReadW s = .abort t) ∧ MicroFrame s t := ⟨_, .inl rfl, .readW s⟩
  have rh : ∃ t, (stepReadHl s = .go t ∨ stepReadHl s = .abort t) ∧ MicroFrame s t := ⟨_, .inl rfl, .z _ s⟩
  have pl : ∃ t, (stepPopLo s = .go t ∨ stepPopLo s = .abort t) ∧ MicroFrame s t := ⟨_, .inl rfl, .popLo s⟩
  have ph : ∃ t, (stepPopHi s = .go t ∨ stepPopHi s = .abort t) ∧ MicroFrame s t := ⟨_, .inl rfl, .popHi s⟩
  have uh : ∀ v, ∃ t, (stepPushHi v s = .go t ∨ stepPushHi v s = .abort t) ∧ MicroFrame s t := fun v => ⟨_, .inl rfl, .pushByte _ _ s⟩
  have jw : ∃ t, (stepJumpWZ s = .go t ∨ stepJumpWZ s = .abort t) ∧ MicroFrame s t := ⟨_, .inl rfl, .pc _ s⟩
  cases f
  all_goals try (exfalso; revert hf; simp [formCycles]; done)
  all_goals simp only [formSteps, List.mem_cons, List.not_mem_nil, or_false] at hm
  case ldRegImm r n => subst hm; exact ⟨_, .inl rfl, (MicroFrame.pc _ s).trans (.setReg _ _ _)⟩
  case ldRegHl => subst hm; exact ⟨_, .inl rfl, .setReg _ _ s⟩
  case ldHlReg => subst hm; exact ⟨_, .inl rfl, .write8 _ _ s⟩
  case ldHlImm => rcases hm with rfl | rfl; exacts [rz, ⟨_, .inl rfl, .write8 _ _ s⟩]
  case ldAInd => subst hm; exact ⟨_, .inl rfl, (MicroFrame.setReg _ _ s).trans (.indAfter _ _)⟩
  case ldIndA => subst hm; exact ⟨_, .inl rfl, (MicroFrame.write8 _ _ s).trans (.indAfter _ _)⟩
  case ldAAbs => rcases hm with rfl | rfl | rfl; exacts [rz, rw', ⟨_, .inl rfl, .setReg _ _ s⟩]
  case ldAbsA => rcases hm with rfl | rfl | rfl; exacts [rz, rw', ⟨_, .inl rfl, .write8 _ _ s⟩]
  case ldhAImm => rcases hm with rfl | rfl; exacts [rz, ⟨_, .inl rfl, .setReg _ _ s⟩]
  case ldhImmA => rcases hm with rfl | rfl; exacts [rz, ⟨_, .inl rfl, .write8 _ _ s⟩]
  case ldhAC => subst hm; exact ⟨_, .inl rfl, .setReg _ _ s⟩
  case ldhCA => subst hm; exact ⟨_, .inl rfl, .write8 _ _ s⟩
  case ldPairImm =>
    rcases hm with rfl | rfl
    exacts [rz, ⟨_, .inl rfl, ((MicroFrame.readW s).trans (.quirk _ _ _)).trans (.setPair _ _ _)⟩]
  case ldAbsSp =>
    rcases hm with rfl | rfl | rfl | rfl
    exacts [rz, rw', ⟨_, .inl rfl, .write8 _ _ s⟩, ⟨_, .inl rfl, .write8 _ _ s⟩]
  case ldSpHl => subst hm; exact ⟨_, .inl rfl, .sp _ s⟩
  case ldHlSpE => rcases hm with rfl | rfl; exacts [rz, ⟨_, .inl rfl, (MicroFrame.setFlags _ s).trans (.setHl _ _)⟩]
  case push => rcases hm with rfl | rfl | rfl; exacts [idle, uh _, ⟨_, .inl rfl, .pushByte _ _ s⟩]
  case pop => rcases hm with rfl | rfl; exacts [pl, ⟨_, .inl rfl, (MicroFrame.popHi s).trans (.setStackPair _ _ _)⟩]
  case aluHl => subst hm; exact ⟨_, .inl rfl, .applyAlu _ _ s⟩
  case aluImm => subst hm; exact ⟨_, .inl rfl, (MicroFrame.pc _ s).trans (.applyAlu _ _ _)⟩
  case incHl => rcases hm with rfl | rfl; exacts [rh, ⟨_, .inl rfl, (MicroFrame.write8 _ _ s).trans (.setFlags _ _)⟩]
  case decHl => rcases hm with rfl | rfl; exacts [rh, ⟨_, .inl rfl, (MicroFrame.write8 _ _ s).trans (.setFlags _ _)⟩]
  case addHlPair => subst hm; exact ⟨_, .inl rfl, (MicroFrame.setFlags _ s).trans (.setHl _ _)⟩
  case incPair => subst hm; exact ⟨_, .inl rfl, (MicroFrame.quirk _ _ s).trans (.setPair _ _ _)⟩
  case decPair => subst hm; exact ⟨_, .inl rfl, (MicroFrame.quirk _ _ s).trans (.setPair _ _ _)⟩
  case addSpE => rcases hm with rfl | rfl | rfl; exacts [rz, idle, ⟨_, .inl rfl, (MicroFrame.setFlags _ s).trans (.sp _ _)⟩]
  case rotReg => subst hm; exact ⟨_, .inl rfl, (MicroFrame.setReg _ _ s).trans (.setFlags _ _)⟩
  case rotHl => rcases hm with rfl | rfl; exacts [rh, ⟨_, .inl rfl, (MicroFrame.write8 _ _ s).trans (.setFlags _ _)⟩]
  case bitReg => subst hm; exact ⟨_, .inl rfl, .setFlags _ s⟩
  case bitHl => subst hm; exact ⟨_, .inl rfl, (MicroFrame.z _ s).trans (.setFlags _ _)⟩
  case resReg => subst hm; exact ⟨_, .inl rfl, .setReg _ _ s⟩
  case resHl => rcases hm with rfl | rfl; exacts [rh, ⟨_, .inl rfl, .write8 _ _ s⟩]
  case setReg => subst hm; exact ⟨_, .inl rfl, .setReg _ _ s⟩
  case setHl => rcases hm with rfl | rfl; exacts [rh, ⟨_, .inl rfl, .write8 _ _ s⟩]
  case jp => rcases hm with rfl | rfl | rfl; exacts [rz, rw', jw]
  case jpCond => rcases hm with rfl | rfl | rfl; exacts [rz, cond _ _ (.readW s), jw]
  case jr => rcases hm with rfl | rfl; exacts [rz, ⟨_, .inl rfl, .pc _ s⟩]
  case jrCond => rcases hm with rfl | rfl; exacts [cond _ _ (.readZ s), ⟨_, .inl rfl, .pc _ s⟩]
  case call =>
    rcases hm with rfl | rfl | rfl | rfl | rfl
    exacts [rz, rw', idle, uh _, ⟨_, .inl rfl, (MicroFrame.pushByte _ _ s).trans (.pc _ _)⟩]
  case callCond =>
    rcases hm with rfl | rfl | rfl | rfl | rfl
    exacts [rz, cond _ _ (.readW s), idle, uh _, ⟨_, .inl rfl, (MicroFrame.pushByte _ _ s).trans (.pc _ _)⟩]
  case ret => rcases hm with rfl | rfl | rfl; exacts [pl, ph, jw]
  case retCond => rcases hm with rfl | rfl | rfl | rfl; exacts [cond _ _ (.refl s), pl, ph, jw]
  case reti => rcases hm with rfl | rfl | rfl; exacts [pl, ph, ⟨_, .inl rfl, .ret _ s⟩]
  case rst => rcases hm with rfl | rfl | rfl; exacts [idle, uh _, ⟨_, .inl rfl, (MicroFrame.pushByte _ _ s).trans (.pc _ _)⟩]


/-! ### Meanings -/

/-- What a meaning keeps of what the invariant speaks of, and of the platform. -/
structure SoundFrame (s t : State) : Prop where
  platform : t.platform = s.platform
  mem_wf : s.mem.wf = true → t.mem.wf = true
  f_low : s.f.extractLsb' 0 4 = 0 → t.f.extractLsb' 0 4 = 0
  sched_ime : (s.imeSched ≠ .none → s.ime = false) → t.imeSched ≠ .none → t.ime = false

theorem SoundFrame.refl (s : State) : SoundFrame s s := ⟨rfl, id, id, id⟩

theorem SoundFrame.trans {s t u : State} (h : SoundFrame s t) (g : SoundFrame t u) : SoundFrame s u :=
  ⟨g.platform.trans h.platform, fun x => g.mem_wf (h.mem_wf x), fun x => g.f_low (h.f_low x), fun x => g.sched_ime (h.sched_ime x)⟩

theorem MicroFrame.sound {s t : State} (h : MicroFrame s t) : SoundFrame s t := by
  refine ⟨h.platform, h.mem_wf, h.f_low, fun x y => ?_⟩
  rcases h.sched with g | g
  · rw [g.1]; exact x (g.2 ▸ y)
  · exact absurd g.2 y

theorem SoundFrame.nextCycle (s : State) : SoundFrame s s.nextCycle := ⟨rfl, id, id, id⟩

theorem SoundFrame.instructionFinished (s : State) : SoundFrame s s.instructionFinished := by
  rw [State.instructionFinished_eq]
  refine ⟨rfl, id, id, fun h h' => ?_⟩
  cases hs : s.imeSched <;> simp_all

theorem SoundFrame.push16 (v : Word) (s : State) : SoundFrame s (s.push16 v) :=
  (((SoundFrame.nextCycle s).trans (MicroFrame.pushByte _ _ _).sound).trans (.nextCycle _)).trans
    (MicroFrame.pushByte _ _ _).sound

theorem SoundFrame.pop16Next (s : State) : SoundFrame s s.pop16Next :=
  (((SoundFrame.nextCycle s).trans (MicroFrame.popNext _ _).sound).trans (.nextCycle _)).trans (MicroFrame.popNext _ _).sound

/-- Every meaning keeps memory canonical, F's low nibble, and a scheduled enable only while IME is 0. -/
theorem nextForm_sound (f : Form) (s : State) : SoundFrame s (nextForm f s) := by
  have n1 := SoundFrame.nextCycle s
  have n2 := n1.trans (SoundFrame.nextCycle _)
  have call : ∀ a, SoundFrame s (s.callTo a) := fun a => (n1.trans (.push16 _ _)).trans (MicroFrame.pc _ _).sound
  have ret : ∀ (u : State) a, SoundFrame s u → SoundFrame s { u.pop16Next.nextCycle with pc := a } := fun u a h =>
    ((h.trans (.pop16Next _)).trans (.nextCycle _)).trans (MicroFrame.pc _ _).sound
  cases f
  case nop => exact .refl s
  case stop => exact ⟨rfl, id, id, id⟩
  case cbTable => exact ⟨rfl, id, id, id⟩
  case unassigned => exact .refl s
  case halt => rw [nextForm_halt]; split <;> exact ⟨rfl, id, id, id⟩
  case di => exact ⟨rfl, id, id, fun _ h => absurd rfl h⟩
  case ei =>
    rw [nextForm_ei, State.scheduleEnable_true]
    refine ⟨rfl, id, id, fun h h' => ?_⟩
    by_cases hc : s.ime = false ∧ s.imeSched = .none
    · exact hc.1
    · simp only [hc, if_false] at h'; exact h h'
  case ldRegReg => exact (MicroFrame.setReg _ _ s).sound
  case ldRegImm => exact (MicroFrame.setReg _ _ s).sound
  case ldRegHl => exact n1.trans (MicroFrame.setReg _ _ _).sound
  case ldHlReg => exact n1.trans (MicroFrame.write8 _ _ _).sound
  case ldHlImm => exact n1.trans (MicroFrame.write8 _ _ _).sound
  case ldAInd => exact (n1.trans (MicroFrame.setReg _ _ _).sound).trans (MicroFrame.indAfter _ _).sound
  case ldIndA => exact (n1.trans (MicroFrame.write8 _ _ _).sound).trans (MicroFrame.indAfter _ _).sound
  case ldAAbs => exact n1.trans (MicroFrame.setReg .a _ _).sound
  case ldAbsA => exact n1.trans (MicroFrame.write8 _ _ _).sound
  case ldhAImm => exact n1.trans (MicroFrame.setReg .a _ _).sound
  case ldhImmA => exact n1.trans (MicroFrame.write8 _ _ _).sound
  case ldhAC => exact n1.trans (MicroFrame.setReg .a _ _).sound
  case ldhCA => exact n1.trans (MicroFrame.write8 _ _ _).sound
  case ldPairImm => exact ((MicroFrame.quirk _ _ s).trans (.setPair _ _ _)).sound
  case ldAbsSp => exact ((n1.trans (MicroFrame.write8 _ _ _).sound).trans (.nextCycle _)).trans (MicroFrame.write8 _ _ _).sound
  case ldSpHl => exact n1.trans (MicroFrame.sp _ _).sound
  case ldHlSpE => exact n1.trans ((MicroFrame.setFlags _ _).trans (.setHl _ _)).sound
  case push => exact n1.trans (.push16 _ _)
  case pop => exact (SoundFrame.pop16Next s).trans (MicroFrame.setStackPair _ _ _).sound
  case aluReg => exact (MicroFrame.applyAlu _ _ s).sound
  case aluHl => exact n1.trans (MicroFrame.applyAlu _ _ _).sound
  case aluImm => exact (MicroFrame.applyAlu _ _ s).sound
  case incReg => exact ((MicroFrame.setReg _ _ s).trans (.setFlags _ _)).sound
  case incHl => exact n2.trans ((MicroFrame.write8 _ _ _).trans (.setFlags _ _)).sound
  case decReg => exact ((MicroFrame.setReg _ _ s).trans (.setFlags _ _)).sound
  case decHl => exact n2.trans ((MicroFrame.write8 _ _ _).trans (.setFlags _ _)).sound
  case daa => exact ((MicroFrame.setReg .a _ s).trans (.setFlags _ _)).sound
  case cpl => exact (((MicroFrame.setReg .a _ s).trans (.setFlags _ _)).trans (.setFlags _ _)).sound
  case scf => exact (((MicroFrame.setFlags _ s).trans (.setFlags _ _)).trans (.setFlags _ _)).sound
  case ccf => exact (((MicroFrame.setFlags _ s).trans (.setFlags _ _)).trans (.setFlags _ _)).sound
  case addHlPair => exact n1.trans ((MicroFrame.setFlags _ _).trans (.setHl _ _)).sound
  case incPair => exact n1.trans ((MicroFrame.quirk _ _ _).trans (.setPair _ _ _)).sound
  case decPair => exact n1.trans ((MicroFrame.quirk _ _ _).trans (.setPair _ _ _)).sound
  case addSpE => exact n2.trans ((MicroFrame.setFlags _ _).trans (.sp _ _)).sound
  case accRot => exact ((MicroFrame.setReg _ _ s).trans (.setFlags _ _)).sound
  case rotReg => exact ((MicroFrame.setReg _ _ s).trans (.setFlags _ _)).sound
  case rotHl => exact n2.trans ((MicroFrame.write8 _ _ _).trans (.setFlags _ _)).sound
  case bitReg => exact (MicroFrame.setFlags _ s).sound
  case bitHl => exact n1.trans (MicroFrame.setFlags _ _).sound
  case resReg => exact (MicroFrame.setReg _ _ s).sound
  case resHl => exact n2.trans (MicroFrame.write8 _ _ _).sound
  case setReg => exact (MicroFrame.setReg _ _ s).sound
  case setHl => exact n2.trans (MicroFrame.write8 _ _ _).sound
  case jp => exact n1.trans (MicroFrame.pc _ _).sound
  case jpCond => rw [nextForm_jpCond]; split <;> first | exact .refl s | exact n1.trans (MicroFrame.pc _ _).sound
  case jpHl => exact (MicroFrame.pc _ s).sound
  case jr => exact n1.trans (MicroFrame.pc _ _).sound
  case jrCond => rw [nextForm_jrCond]; split <;> first | exact .refl s | exact n1.trans (MicroFrame.pc _ _).sound
  case call => exact call _
  case callCond => rw [nextForm_callCond]; split <;> first | exact .refl s | exact call _
  case ret => exact ret s _ (.refl s)
  case retCond => rw [nextForm_retCond]; split <;> first | exact n1 | exact ret _ _ n1
  case reti => exact ((SoundFrame.pop16Next s).trans (.nextCycle _)).trans (MicroFrame.ret _ _).sound
  case rst => exact call _

end Sys2Proof.Machine
end

