-- ==== Sys2Proof/Laws/PerInstr.lean ====
section
/-! SUPPORT. Facts about instructions as syntax, one lemma per constructor. -/

namespace Sys2Proof.Laws

/-- The first byte of an instruction's encoding alone gives the number of its bytes (R90, R106). -/
def LengthFromFirstByte.Statement (i : Instr) : Prop :=
  i.wellFormed = true → ((encode i).head?.map fun op => 1 + bytesAfter op) = some (encode i).length

theorem LengthFromFirstByte.nop : LengthFromFirstByte.Statement (.nop) := fun _ => rfl
theorem LengthFromFirstByte.ldBcD16 (n : Word) : LengthFromFirstByte.Statement (.ldBcD16 n) := fun _ => rfl
theorem LengthFromFirstByte.ldIndBcA : LengthFromFirstByte.Statement (.ldIndBcA) := fun _ => rfl
theorem LengthFromFirstByte.incBc : LengthFromFirstByte.Statement (.incBc) := fun _ => rfl
theorem LengthFromFirstByte.incB : LengthFromFirstByte.Statement (.incB) := fun _ => rfl
theorem LengthFromFirstByte.decB : LengthFromFirstByte.Statement (.decB) := fun _ => rfl
theorem LengthFromFirstByte.ldBD8 (n : Byte) : LengthFromFirstByte.Statement (.ldBD8 n) := fun _ => rfl
theorem LengthFromFirstByte.rlca : LengthFromFirstByte.Statement (.rlca) := fun _ => rfl
theorem LengthFromFirstByte.ldIndA16Sp (a : Word) : LengthFromFirstByte.Statement (.ldIndA16Sp a) := fun _ => rfl
theorem LengthFromFirstByte.addHlBc : LengthFromFirstByte.Statement (.addHlBc) := fun _ => rfl
theorem LengthFromFirstByte.ldAIndBc : LengthFromFirstByte.Statement (.ldAIndBc) := fun _ => rfl
theorem LengthFromFirstByte.decBc : LengthFromFirstByte.Statement (.decBc) := fun _ => rfl
theorem LengthFromFirstByte.incC : LengthFromFirstByte.Statement (.incC) := fun _ => rfl
theorem LengthFromFirstByte.decC : LengthFromFirstByte.Statement (.decC) := fun _ => rfl
theorem LengthFromFirstByte.ldCD8 (n : Byte) : LengthFromFirstByte.Statement (.ldCD8 n) := fun _ => rfl
theorem LengthFromFirstByte.rrca : LengthFromFirstByte.Statement (.rrca) := fun _ => rfl
theorem LengthFromFirstByte.stop : LengthFromFirstByte.Statement (.stop) := fun _ => rfl
theorem LengthFromFirstByte.ldDeD16 (n : Word) : LengthFromFirstByte.Statement (.ldDeD16 n) := fun _ => rfl
theorem LengthFromFirstByte.ldIndDeA : LengthFromFirstByte.Statement (.ldIndDeA) := fun _ => rfl
theorem LengthFromFirstByte.incDe : LengthFromFirstByte.Statement (.incDe) := fun _ => rfl
theorem LengthFromFirstByte.incD : LengthFromFirstByte.Statement (.incD) := fun _ => rfl
theorem LengthFromFirstByte.decD : LengthFromFirstByte.Statement (.decD) := fun _ => rfl
theorem LengthFromFirstByte.ldDD8 (n : Byte) : LengthFromFirstByte.Statement (.ldDD8 n) := fun _ => rfl
theorem LengthFromFirstByte.rla : LengthFromFirstByte.Statement (.rla) := fun _ => rfl
theorem LengthFromFirstByte.jrE8 (e : Byte) : LengthFromFirstByte.Statement (.jrE8 e) := fun _ => rfl
theorem LengthFromFirstByte.addHlDe : LengthFromFirstByte.Statement (.addHlDe) := fun _ => rfl
theorem LengthFromFirstByte.ldAIndDe : LengthFromFirstByte.Statement (.ldAIndDe) := fun _ => rfl
theorem LengthFromFirstByte.decDe : LengthFromFirstByte.Statement (.decDe) := fun _ => rfl
theorem LengthFromFirstByte.incE : LengthFromFirstByte.Statement (.incE) := fun _ => rfl
theorem LengthFromFirstByte.decE : LengthFromFirstByte.Statement (.decE) := fun _ => rfl
theorem LengthFromFirstByte.ldED8 (n : Byte) : LengthFromFirstByte.Statement (.ldED8 n) := fun _ => rfl
theorem LengthFromFirstByte.rra : LengthFromFirstByte.Statement (.rra) := fun _ => rfl
theorem LengthFromFirstByte.jrNzE8 (e : Byte) : LengthFromFirstByte.Statement (.jrNzE8 e) := fun _ => rfl
theorem LengthFromFirstByte.ldHlD16 (n : Word) : LengthFromFirstByte.Statement (.ldHlD16 n) := fun _ => rfl
theorem LengthFromFirstByte.ldIndHlIncA : LengthFromFirstByte.Statement (.ldIndHlIncA) := fun _ => rfl
theorem LengthFromFirstByte.incHl : LengthFromFirstByte.Statement (.incHl) := fun _ => rfl
theorem LengthFromFirstByte.incH : LengthFromFirstByte.Statement (.incH) := fun _ => rfl
theorem LengthFromFirstByte.decH : LengthFromFirstByte.Statement (.decH) := fun _ => rfl
theorem LengthFromFirstByte.ldHD8 (n : Byte) : LengthFromFirstByte.Statement (.ldHD8 n) := fun _ => rfl
theorem LengthFromFirstByte.daa : LengthFromFirstByte.Statement (.daa) := fun _ => rfl
theorem LengthFromFirstByte.jrZE8 (e : Byte) : LengthFromFirstByte.Statement (.jrZE8 e) := fun _ => rfl
theorem LengthFromFirstByte.addHlHl : LengthFromFirstByte.Statement (.addHlHl) := fun _ => rfl
theorem LengthFromFirstByte.ldAIndHlInc : LengthFromFirstByte.Statement (.ldAIndHlInc) := fun _ => rfl
theorem LengthFromFirstByte.decHl : LengthFromFirstByte.Statement (.decHl) := fun _ => rfl
theorem LengthFromFirstByte.incL : LengthFromFirstByte.Statement (.incL) := fun _ => rfl
theorem LengthFromFirstByte.decL : LengthFromFirstByte.Statement (.decL) := fun _ => rfl
theorem LengthFromFirstByte.ldLD8 (n : Byte) : LengthFromFirstByte.Statement (.ldLD8 n) := fun _ => rfl
theorem LengthFromFirstByte.cpl : LengthFromFirstByte.Statement (.cpl) := fun _ => rfl
theorem LengthFromFirstByte.jrNcE8 (e : Byte) : LengthFromFirstByte.Statement (.jrNcE8 e) := fun _ => rfl
theorem LengthFromFirstByte.ldSpD16 (n : Word) : LengthFromFirstByte.Statement (.ldSpD16 n) := fun _ => rfl
theorem LengthFromFirstByte.ldIndHlDecA : LengthFromFirstByte.Statement (.ldIndHlDecA) := fun _ => rfl
theorem LengthFromFirstByte.incSp : LengthFromFirstByte.Statement (.incSp) := fun _ => rfl
theorem LengthFromFirstByte.incIndHl : LengthFromFirstByte.Statement (.incIndHl) := fun _ => rfl
theorem LengthFromFirstByte.decIndHl : LengthFromFirstByte.Statement (.decIndHl) := fun _ => rfl
theorem LengthFromFirstByte.ldIndHlD8 (n : Byte) : LengthFromFirstByte.Statement (.ldIndHlD8 n) := fun _ => rfl
theorem LengthFromFirstByte.scf : LengthFromFirstByte.Statement (.scf) := fun _ => rfl
theorem LengthFromFirstByte.jrCE8 (e : Byte) : LengthFromFirstByte.Statement (.jrCE8 e) := fun _ => rfl
theorem LengthFromFirstByte.addHlSp : LengthFromFirstByte.Statement (.addHlSp) := fun _ => rfl
theorem LengthFromFirstByte.ldAIndHlDec : LengthFromFirstByte.Statement (.ldAIndHlDec) := fun _ => rfl
theorem LengthFromFirstByte.decSp : LengthFromFirstByte.Statement (.decSp) := fun _ => rfl
theorem LengthFromFirstByte.incA : LengthFromFirstByte.Statement (.incA) := fun _ => rfl
theorem LengthFromFirstByte.decA : LengthFromFirstByte.Statement (.decA) := fun _ => rfl
theorem LengthFromFirstByte.ldAD8 (n : Byte) : LengthFromFirstByte.Statement (.ldAD8 n) := fun _ => rfl
theorem LengthFromFirstByte.ccf : LengthFromFirstByte.Statement (.ccf) := fun _ => rfl
theorem LengthFromFirstByte.ldBB : LengthFromFirstByte.Statement (.ldBB) := fun _ => rfl
theorem LengthFromFirstByte.ldBC : LengthFromFirstByte.Statement (.ldBC) := fun _ => rfl
theorem LengthFromFirstByte.ldBD : LengthFromFirstByte.Statement (.ldBD) := fun _ => rfl
theorem LengthFromFirstByte.ldBE : LengthFromFirstByte.Statement (.ldBE) := fun _ => rfl
theorem LengthFromFirstByte.ldBH : LengthFromFirstByte.Statement (.ldBH) := fun _ => rfl
theorem LengthFromFirstByte.ldBL : LengthFromFirstByte.Statement (.ldBL) := fun _ => rfl
theorem LengthFromFirstByte.ldBIndHl : LengthFromFirstByte.Statement (.ldBIndHl) := fun _ => rfl
theorem LengthFromFirstByte.ldBA : LengthFromFirstByte.Statement (.ldBA) := fun _ => rfl
theorem LengthFromFirstByte.ldCB : LengthFromFirstByte.Statement (.ldCB) := fun _ => rfl
theorem LengthFromFirstByte.ldCC : LengthFromFirstByte.Statement (.ldCC) := fun _ => rfl
theorem LengthFromFirstByte.ldCD : LengthFromFirstByte.Statement (.ldCD) := fun _ => rfl
theorem LengthFromFirstByte.ldCE : LengthFromFirstByte.Statement (.ldCE) := fun _ => rfl
theorem LengthFromFirstByte.ldCH : LengthFromFirstByte.Statement (.ldCH) := fun _ => rfl
theorem LengthFromFirstByte.ldCL : LengthFromFirstByte.Statement (.ldCL) := fun _ => rfl
theorem LengthFromFirstByte.ldCIndHl : LengthFromFirstByte.Statement (.ldCIndHl) := fun _ => rfl
theorem LengthFromFirstByte.ldCA : LengthFromFirstByte.Statement (.ldCA) := fun _ => rfl
theorem LengthFromFirstByte.ldDB : LengthFromFirstByte.Statement (.ldDB) := fun _ => rfl
theorem LengthFromFirstByte.ldDC : LengthFromFirstByte.Statement (.ldDC) := fun _ => rfl
theorem LengthFromFirstByte.ldDD : LengthFromFirstByte.Statement (.ldDD) := fun _ => rfl
theorem LengthFromFirstByte.ldDE : LengthFromFirstByte.Statement (.ldDE) := fun _ => rfl
theorem LengthFromFirstByte.ldDH : LengthFromFirstByte.Statement (.ldDH) := fun _ => rfl
theorem LengthFromFirstByte.ldDL : LengthFromFirstByte.Statement (.ldDL) := fun _ => rfl
theorem LengthFromFirstByte.ldDIndHl : LengthFromFirstByte.Statement (.ldDIndHl) := fun _ => rfl
theorem LengthFromFirstByte.ldDA : LengthFromFirstByte.Statement (.ldDA) := fun _ => rfl
theorem LengthFromFirstByte.ldEB : LengthFromFirstByte.Statement (.ldEB) := fun _ => rfl
theorem LengthFromFirstByte.ldEC : LengthFromFirstByte.Statement (.ldEC) := fun _ => rfl
theorem LengthFromFirstByte.ldED : LengthFromFirstByte.Statement (.ldED) := fun _ => rfl
theorem LengthFromFirstByte.ldEE : LengthFromFirstByte.Statement (.ldEE) := fun _ => rfl
theorem LengthFromFirstByte.ldEH : LengthFromFirstByte.Statement (.ldEH) := fun _ => rfl
theorem LengthFromFirstByte.ldEL : LengthFromFirstByte.Statement (.ldEL) := fun _ => rfl
theorem LengthFromFirstByte.ldEIndHl : LengthFromFirstByte.Statement (.ldEIndHl) := fun _ => rfl
theorem LengthFromFirstByte.ldEA : LengthFromFirstByte.Statement (.ldEA) := fun _ => rfl
theorem LengthFromFirstByte.ldHB : LengthFromFirstByte.Statement (.ldHB) := fun _ => rfl
theorem LengthFromFirstByte.ldHC : LengthFromFirstByte.Statement (.ldHC) := fun _ => rfl
theorem LengthFromFirstByte.ldHD : LengthFromFirstByte.Statement (.ldHD) := fun _ => rfl
theorem LengthFromFirstByte.ldHE : LengthFromFirstByte.Statement (.ldHE) := fun _ => rfl
theorem LengthFromFirstByte.ldHH : LengthFromFirstByte.Statement (.ldHH) := fun _ => rfl
theorem LengthFromFirstByte.ldHL : LengthFromFirstByte.Statement (.ldHL) := fun _ => rfl
theorem LengthFromFirstByte.ldHIndHl : LengthFromFirstByte.Statement (.ldHIndHl) := fun _ => rfl
theorem LengthFromFirstByte.ldHA : LengthFromFirstByte.Statement (.ldHA) := fun _ => rfl
theorem LengthFromFirstByte.ldLB : LengthFromFirstByte.Statement (.ldLB) := fun _ => rfl
theorem LengthFromFirstByte.ldLC : LengthFromFirstByte.Statement (.ldLC) := fun _ => rfl
theorem LengthFromFirstByte.ldLD : LengthFromFirstByte.Statement (.ldLD) := fun _ => rfl
theorem LengthFromFirstByte.ldLE : LengthFromFirstByte.Statement (.ldLE) := fun _ => rfl
theorem LengthFromFirstByte.ldLH : LengthFromFirstByte.Statement (.ldLH) := fun _ => rfl
theorem LengthFromFirstByte.ldLL : LengthFromFirstByte.Statement (.ldLL) := fun _ => rfl
theorem LengthFromFirstByte.ldLIndHl : LengthFromFirstByte.Statement (.ldLIndHl) := fun _ => rfl
theorem LengthFromFirstByte.ldLA : LengthFromFirstByte.Statement (.ldLA) := fun _ => rfl
theorem LengthFromFirstByte.ldIndHlB : LengthFromFirstByte.Statement (.ldIndHlB) := fun _ => rfl
theorem LengthFromFirstByte.ldIndHlC : LengthFromFirstByte.Statement (.ldIndHlC) := fun _ => rfl
theorem LengthFromFirstByte.ldIndHlD : LengthFromFirstByte.Statement (.ldIndHlD) := fun _ => rfl
theorem LengthFromFirstByte.ldIndHlE : LengthFromFirstByte.Statement (.ldIndHlE) := fun _ => rfl
theorem LengthFromFirstByte.ldIndHlH : LengthFromFirstByte.Statement (.ldIndHlH) := fun _ => rfl
theorem LengthFromFirstByte.ldIndHlL : LengthFromFirstByte.Statement (.ldIndHlL) := fun _ => rfl
theorem LengthFromFirstByte.halt : LengthFromFirstByte.Statement (.halt) := fun _ => rfl
theorem LengthFromFirstByte.ldIndHlA : LengthFromFirstByte.Statement (.ldIndHlA) := fun _ => rfl
theorem LengthFromFirstByte.ldAB : LengthFromFirstByte.Statement (.ldAB) := fun _ => rfl
theorem LengthFromFirstByte.ldAC : LengthFromFirstByte.Statement (.ldAC) := fun _ => rfl
theorem LengthFromFirstByte.ldAD : LengthFromFirstByte.Statement (.ldAD) := fun _ => rfl
theorem LengthFromFirstByte.ldAE : LengthFromFirstByte.Statement (.ldAE) := fun _ => rfl
theorem LengthFromFirstByte.ldAH : LengthFromFirstByte.Statement (.ldAH) := fun _ => rfl
theorem LengthFromFirstByte.ldAL : LengthFromFirstByte.Statement (.ldAL) := fun _ => rfl
theorem LengthFromFirstByte.ldAIndHl : LengthFromFirstByte.Statement (.ldAIndHl) := fun _ => rfl
theorem LengthFromFirstByte.ldAA : LengthFromFirstByte.Statement (.ldAA) := fun _ => rfl
theorem LengthFromFirstByte.addAB : LengthFromFirstByte.Statement (.addAB) := fun _ => rfl
theorem LengthFromFirstByte.addAC : LengthFromFirstByte.Statement (.addAC) := fun _ => rfl
theorem LengthFromFirstByte.addAD : LengthFromFirstByte.Statement (.addAD) := fun _ => rfl
theorem LengthFromFirstByte.addAE : LengthFromFirstByte.Statement (.addAE) := fun _ => rfl
theorem LengthFromFirstByte.addAH : LengthFromFirstByte.Statement (.addAH) := fun _ => rfl
theorem LengthFromFirstByte.addAL : LengthFromFirstByte.Statement (.addAL) := fun _ => rfl
theorem LengthFromFirstByte.addAIndHl : LengthFromFirstByte.Statement (.addAIndHl) := fun _ => rfl
theorem LengthFromFirstByte.addAA : LengthFromFirstByte.Statement (.addAA) := fun _ => rfl
theorem LengthFromFirstByte.adcAB : LengthFromFirstByte.Statement (.adcAB) := fun _ => rfl
theorem LengthFromFirstByte.adcAC : LengthFromFirstByte.Statement (.adcAC) := fun _ => rfl
theorem LengthFromFirstByte.adcAD : LengthFromFirstByte.Statement (.adcAD) := fun _ => rfl
theorem LengthFromFirstByte.adcAE : LengthFromFirstByte.Statement (.adcAE) := fun _ => rfl
theorem LengthFromFirstByte.adcAH : LengthFromFirstByte.Statement (.adcAH) := fun _ => rfl
theorem LengthFromFirstByte.adcAL : LengthFromFirstByte.Statement (.adcAL) := fun _ => rfl
theorem LengthFromFirstByte.adcAIndHl : LengthFromFirstByte.Statement (.adcAIndHl) := fun _ => rfl
theorem LengthFromFirstByte.adcAA : LengthFromFirstByte.Statement (.adcAA) := fun _ => rfl
theorem LengthFromFirstByte.subAB : LengthFromFirstByte.Statement (.subAB) := fun _ => rfl
theorem LengthFromFirstByte.subAC : LengthFromFirstByte.Statement (.subAC) := fun _ => rfl
theorem LengthFromFirstByte.subAD : LengthFromFirstByte.Statement (.subAD) := fun _ => rfl
theorem LengthFromFirstByte.subAE : LengthFromFirstByte.Statement (.subAE) := fun _ => rfl
theorem LengthFromFirstByte.subAH : LengthFromFirstByte.Statement (.subAH) := fun _ => rfl
theorem LengthFromFirstByte.subAL : LengthFromFirstByte.Statement (.subAL) := fun _ => rfl
theorem LengthFromFirstByte.subAIndHl : LengthFromFirstByte.Statement (.subAIndHl) := fun _ => rfl
theorem LengthFromFirstByte.subAA : LengthFromFirstByte.Statement (.subAA) := fun _ => rfl
theorem LengthFromFirstByte.sbcAB : LengthFromFirstByte.Statement (.sbcAB) := fun _ => rfl
theorem LengthFromFirstByte.sbcAC : LengthFromFirstByte.Statement (.sbcAC) := fun _ => rfl
theorem LengthFromFirstByte.sbcAD : LengthFromFirstByte.Statement (.sbcAD) := fun _ => rfl
theorem LengthFromFirstByte.sbcAE : LengthFromFirstByte.Statement (.sbcAE) := fun _ => rfl
theorem LengthFromFirstByte.sbcAH : LengthFromFirstByte.Statement (.sbcAH) := fun _ => rfl
theorem LengthFromFirstByte.sbcAL : LengthFromFirstByte.Statement (.sbcAL) := fun _ => rfl
theorem LengthFromFirstByte.sbcAIndHl : LengthFromFirstByte.Statement (.sbcAIndHl) := fun _ => rfl
theorem LengthFromFirstByte.sbcAA : LengthFromFirstByte.Statement (.sbcAA) := fun _ => rfl
theorem LengthFromFirstByte.andAB : LengthFromFirstByte.Statement (.andAB) := fun _ => rfl
theorem LengthFromFirstByte.andAC : LengthFromFirstByte.Statement (.andAC) := fun _ => rfl
theorem LengthFromFirstByte.andAD : LengthFromFirstByte.Statement (.andAD) := fun _ => rfl
theorem LengthFromFirstByte.andAE : LengthFromFirstByte.Statement (.andAE) := fun _ => rfl
theorem LengthFromFirstByte.andAH : LengthFromFirstByte.Statement (.andAH) := fun _ => rfl
theorem LengthFromFirstByte.andAL : LengthFromFirstByte.Statement (.andAL) := fun _ => rfl
theorem LengthFromFirstByte.andAIndHl : LengthFromFirstByte.Statement (.andAIndHl) := fun _ => rfl
theorem LengthFromFirstByte.andAA : LengthFromFirstByte.Statement (.andAA) := fun _ => rfl
theorem LengthFromFirstByte.xorAB : LengthFromFirstByte.Statement (.xorAB) := fun _ => rfl
theorem LengthFromFirstByte.xorAC : LengthFromFirstByte.Statement (.xorAC) := fun _ => rfl
theorem LengthFromFirstByte.xorAD : LengthFromFirstByte.Statement (.xorAD) := fun _ => rfl
theorem LengthFromFirstByte.xorAE : LengthFromFirstByte.Statement (.xorAE) := fun _ => rfl
theorem LengthFromFirstByte.xorAH : LengthFromFirstByte.Statement (.xorAH) := fun _ => rfl
theorem LengthFromFirstByte.xorAL : LengthFromFirstByte.Statement (.xorAL) := fun _ => rfl
theorem LengthFromFirstByte.xorAIndHl : LengthFromFirstByte.Statement (.xorAIndHl) := fun _ => rfl
theorem LengthFromFirstByte.xorAA : LengthFromFirstByte.Statement (.xorAA) := fun _ => rfl
theorem LengthFromFirstByte.orAB : LengthFromFirstByte.Statement (.orAB) := fun _ => rfl
theorem LengthFromFirstByte.orAC : LengthFromFirstByte.Statement (.orAC) := fun _ => rfl
theorem LengthFromFirstByte.orAD : LengthFromFirstByte.Statement (.orAD) := fun _ => rfl
theorem LengthFromFirstByte.orAE : LengthFromFirstByte.Statement (.orAE) := fun _ => rfl
theorem LengthFromFirstByte.orAH : LengthFromFirstByte.Statement (.orAH) := fun _ => rfl
theorem LengthFromFirstByte.orAL : LengthFromFirstByte.Statement (.orAL) := fun _ => rfl
theorem LengthFromFirstByte.orAIndHl : LengthFromFirstByte.Statement (.orAIndHl) := fun _ => rfl
theorem LengthFromFirstByte.orAA : LengthFromFirstByte.Statement (.orAA) := fun _ => rfl
theorem LengthFromFirstByte.cpAB : LengthFromFirstByte.Statement (.cpAB) := fun _ => rfl
theorem LengthFromFirstByte.cpAC : LengthFromFirstByte.Statement (.cpAC) := fun _ => rfl
theorem LengthFromFirstByte.cpAD : LengthFromFirstByte.Statement (.cpAD) := fun _ => rfl
theorem LengthFromFirstByte.cpAE : LengthFromFirstByte.Statement (.cpAE) := fun _ => rfl
theorem LengthFromFirstByte.cpAH : LengthFromFirstByte.Statement (.cpAH) := fun _ => rfl
theorem LengthFromFirstByte.cpAL : LengthFromFirstByte.Statement (.cpAL) := fun _ => rfl
theorem LengthFromFirstByte.cpAIndHl : LengthFromFirstByte.Statement (.cpAIndHl) := fun _ => rfl
theorem LengthFromFirstByte.cpAA : LengthFromFirstByte.Statement (.cpAA) := fun _ => rfl
theorem LengthFromFirstByte.retNz : LengthFromFirstByte.Statement (.retNz) := fun _ => rfl
theorem LengthFromFirstByte.popBc : LengthFromFirstByte.Statement (.popBc) := fun _ => rfl
theorem LengthFromFirstByte.jpNzA16 (a : Word) : LengthFromFirstByte.Statement (.jpNzA16 a) := fun _ => rfl
theorem LengthFromFirstByte.jpA16 (a : Word) : LengthFromFirstByte.Statement (.jpA16 a) := fun _ => rfl
theorem LengthFromFirstByte.callNzA16 (a : Word) : LengthFromFirstByte.Statement (.callNzA16 a) := fun _ => rfl
theorem LengthFromFirstByte.pushBc : LengthFromFirstByte.Statement (.pushBc) := fun _ => rfl
theorem LengthFromFirstByte.addAD8 (n : Byte) : LengthFromFirstByte.Statement (.addAD8 n) := fun _ => rfl
theorem LengthFromFirstByte.rst00 : LengthFromFirstByte.Statement (.rst00) := fun _ => rfl
theorem LengthFromFirstByte.retZ : LengthFromFirstByte.Statement (.retZ) := fun _ => rfl
theorem LengthFromFirstByte.ret : LengthFromFirstByte.Statement (.ret) := fun _ => rfl
theorem LengthFromFirstByte.jpZA16 (a : Word) : LengthFromFirstByte.Statement (.jpZA16 a) := fun _ => rfl
theorem LengthFromFirstByte.prefixCb : LengthFromFirstByte.Statement (.prefixCb) := fun h => absurd h (by decide)
theorem LengthFromFirstByte.callZA16 (a : Word) : LengthFromFirstByte.Statement (.callZA16 a) := fun _ => rfl
theorem LengthFromFirstByte.callA16 (a : Word) : LengthFromFirstByte.Statement (.callA16 a) := fun _ => rfl
theorem LengthFromFirstByte.adcAD8 (n : Byte) : LengthFromFirstByte.Statement (.adcAD8 n) := fun _ => rfl
theorem LengthFromFirstByte.rst08 : LengthFromFirstByte.Statement (.rst08) := fun _ => rfl
theorem LengthFromFirstByte.retNc : LengthFromFirstByte.Statement (.retNc) := fun _ => rfl
theorem LengthFromFirstByte.popDe : LengthFromFirstByte.Statement (.popDe) := fun _ => rfl
theorem LengthFromFirstByte.jpNcA16 (a : Word) : LengthFromFirstByte.Statement (.jpNcA16 a) := fun _ => rfl
theorem LengthFromFirstByte.illegalD3 : LengthFromFirstByte.Statement (.illegalD3) := fun _ => rfl
theorem LengthFromFirstByte.callNcA16 (a : Word) : LengthFromFirstByte.Statement (.callNcA16 a) := fun _ => rfl
theorem LengthFromFirstByte.pushDe : LengthFromFirstByte.Statement (.pushDe) := fun _ => rfl
theorem LengthFromFirstByte.subAD8 (n : Byte) : LengthFromFirstByte.Statement (.subAD8 n) := fun _ => rfl
theorem LengthFromFirstByte.rst10 : LengthFromFirstByte.Statement (.rst10) := fun _ => rfl
theorem LengthFromFirstByte.retC : LengthFromFirstByte.Statement (.retC) := fun _ => rfl
theorem LengthFromFirstByte.reti : LengthFromFirstByte.Statement (.reti) := fun _ => rfl
theorem LengthFromFirstByte.jpCA16 (a : Word) : LengthFromFirstByte.Statement (.jpCA16 a) := fun _ => rfl
theorem LengthFromFirstByte.illegalDB : LengthFromFirstByte.Statement (.illegalDB) := fun _ => rfl
theorem LengthFromFirstByte.callCA16 (a : Word) : LengthFromFirstByte.Statement (.callCA16 a) := fun _ => rfl
theorem LengthFromFirstByte.illegalDD : LengthFromFirstByte.Statement (.illegalDD) := fun _ => rfl
theorem LengthFromFirstByte.sbcAD8 (n : Byte) : LengthFromFirstByte.Statement (.sbcAD8 n) := fun _ => rfl
theorem LengthFromFirstByte.rst18 : LengthFromFirstByte.Statement (.rst18) := fun _ => rfl
theorem LengthFromFirstByte.ldhIndA8A (a : Byte) : LengthFromFirstByte.Statement (.ldhIndA8A a) := fun _ => rfl
theorem LengthFromFirstByte.popHl : LengthFromFirstByte.Statement (.popHl) := fun _ => rfl
theorem LengthFromFirstByte.ldhIndCA : LengthFromFirstByte.Statement (.ldhIndCA) := fun _ => rfl
theorem LengthFromFirstByte.illegalE3 : LengthFromFirstByte.Statement (.illegalE3) := fun _ => rfl
theorem LengthFromFirstByte.illegalE4 : LengthFromFirstByte.Statement (.illegalE4) := fun _ => rfl
theorem LengthFromFirstByte.pushHl : LengthFromFirstByte.Statement (.pushHl) := fun _ => rfl
theorem LengthFromFirstByte.andAD8 (n : Byte) : LengthFromFirstByte.Statement (.andAD8 n) := fun _ => rfl
theorem LengthFromFirstByte.rst20 : LengthFromFirstByte.Statement (.rst20) := fun _ => rfl
theorem LengthFromFirstByte.addSpE8 (e : Byte) : LengthFromFirstByte.Statement (.addSpE8 e) := fun _ => rfl
theorem LengthFromFirstByte.jpHl : LengthFromFirstByte.Statement (.jpHl) := fun _ => rfl
theorem LengthFromFirstByte.ldIndA16A (a : Word) : LengthFromFirstByte.Statement (.ldIndA16A a) := fun _ => rfl
theorem LengthFromFirstByte.illegalEB : LengthFromFirstByte.Statement (.illegalEB) := fun _ => rfl
theorem LengthFromFirstByte.illegalEC : LengthFromFirstByte.Statement (.illegalEC) := fun _ => rfl
theorem LengthFromFirstByte.illegalED : LengthFromFirstByte.Statement (.illegalED) := fun _ => rfl
theorem LengthFromFirstByte.xorAD8 (n : Byte) : LengthFromFirstByte.Statement (.xorAD8 n) := fun _ => rfl
theorem LengthFromFirstByte.rst28 : LengthFromFirstByte.Statement (.rst28) := fun _ => rfl
theorem LengthFromFirstByte.ldhAIndA8 (a : Byte) : LengthFromFirstByte.Statement (.ldhAIndA8 a) := fun _ => rfl
theorem LengthFromFirstByte.popAf : LengthFromFirstByte.Statement (.popAf) := fun _ => rfl
theorem LengthFromFirstByte.ldhAIndC : LengthFromFirstByte.Statement (.ldhAIndC) := fun _ => rfl
theorem LengthFromFirstByte.di : LengthFromFirstByte.Statement (.di) := fun _ => rfl
theorem LengthFromFirstByte.illegalF4 : LengthFromFirstByte.Statement (.illegalF4) := fun _ => rfl
theorem LengthFromFirstByte.pushAf : LengthFromFirstByte.Statement (.pushAf) := fun _ => rfl
theorem LengthFromFirstByte.orAD8 (n : Byte) : LengthFromFirstByte.Statement (.orAD8 n) := fun _ => rfl
theorem LengthFromFirstByte.rst30 : LengthFromFirstByte.Statement (.rst30) := fun _ => rfl
theorem LengthFromFirstByte.ldHlSpE8 (e : Byte) : LengthFromFirstByte.Statement (.ldHlSpE8 e) := fun _ => rfl
theorem LengthFromFirstByte.ldSpHl : LengthFromFirstByte.Statement (.ldSpHl) := fun _ => rfl
theorem LengthFromFirstByte.ldAIndA16 (a : Word) : LengthFromFirstByte.Statement (.ldAIndA16 a) := fun _ => rfl
theorem LengthFromFirstByte.ei : LengthFromFirstByte.Statement (.ei) := fun _ => rfl
theorem LengthFromFirstByte.illegalFC : LengthFromFirstByte.Statement (.illegalFC) := fun _ => rfl
theorem LengthFromFirstByte.illegalFD : LengthFromFirstByte.Statement (.illegalFD) := fun _ => rfl
theorem LengthFromFirstByte.cpAD8 (n : Byte) : LengthFromFirstByte.Statement (.cpAD8 n) := fun _ => rfl
theorem LengthFromFirstByte.rst38 : LengthFromFirstByte.Statement (.rst38) := fun _ => rfl
theorem LengthFromFirstByte.cbRlcB : LengthFromFirstByte.Statement (.cbRlcB) := fun _ => rfl
theorem LengthFromFirstByte.cbRlcC : LengthFromFirstByte.Statement (.cbRlcC) := fun _ => rfl
theorem LengthFromFirstByte.cbRlcD : LengthFromFirstByte.Statement (.cbRlcD) := fun _ => rfl
theorem LengthFromFirstByte.cbRlcE : LengthFromFirstByte.Statement (.cbRlcE) := fun _ => rfl
theorem LengthFromFirstByte.cbRlcH : LengthFromFirstByte.Statement (.cbRlcH) := fun _ => rfl
theorem LengthFromFirstByte.cbRlcL : LengthFromFirstByte.Statement (.cbRlcL) := fun _ => rfl
theorem LengthFromFirstByte.cbRlcIndHl : LengthFromFirstByte.Statement (.cbRlcIndHl) := fun _ => rfl
theorem LengthFromFirstByte.cbRlcA : LengthFromFirstByte.Statement (.cbRlcA) := fun _ => rfl
theorem LengthFromFirstByte.cbRrcB : LengthFromFirstByte.Statement (.cbRrcB) := fun _ => rfl
theorem LengthFromFirstByte.cbRrcC : LengthFromFirstByte.Statement (.cbRrcC) := fun _ => rfl
theorem LengthFromFirstByte.cbRrcD : LengthFromFirstByte.Statement (.cbRrcD) := fun _ => rfl
theorem LengthFromFirstByte.cbRrcE : LengthFromFirstByte.Statement (.cbRrcE) := fun _ => rfl
theorem LengthFromFirstByte.cbRrcH : LengthFromFirstByte.Statement (.cbRrcH) := fun _ => rfl
theorem LengthFromFirstByte.cbRrcL : LengthFromFirstByte.Statement (.cbRrcL) := fun _ => rfl
theorem LengthFromFirstByte.cbRrcIndHl : LengthFromFirstByte.Statement (.cbRrcIndHl) := fun _ => rfl
theorem LengthFromFirstByte.cbRrcA : LengthFromFirstByte.Statement (.cbRrcA) := fun _ => rfl
theorem LengthFromFirstByte.cbRlB : LengthFromFirstByte.Statement (.cbRlB) := fun _ => rfl
theorem LengthFromFirstByte.cbRlC : LengthFromFirstByte.Statement (.cbRlC) := fun _ => rfl
theorem LengthFromFirstByte.cbRlD : LengthFromFirstByte.Statement (.cbRlD) := fun _ => rfl
theorem LengthFromFirstByte.cbRlE : LengthFromFirstByte.Statement (.cbRlE) := fun _ => rfl
theorem LengthFromFirstByte.cbRlH : LengthFromFirstByte.Statement (.cbRlH) := fun _ => rfl
theorem LengthFromFirstByte.cbRlL : LengthFromFirstByte.Statement (.cbRlL) := fun _ => rfl
theorem LengthFromFirstByte.cbRlIndHl : LengthFromFirstByte.Statement (.cbRlIndHl) := fun _ => rfl
theorem LengthFromFirstByte.cbRlA : LengthFromFirstByte.Statement (.cbRlA) := fun _ => rfl
theorem LengthFromFirstByte.cbRrB : LengthFromFirstByte.Statement (.cbRrB) := fun _ => rfl
theorem LengthFromFirstByte.cbRrC : LengthFromFirstByte.Statement (.cbRrC) := fun _ => rfl
theorem LengthFromFirstByte.cbRrD : LengthFromFirstByte.Statement (.cbRrD) := fun _ => rfl
theorem LengthFromFirstByte.cbRrE : LengthFromFirstByte.Statement (.cbRrE) := fun _ => rfl
theorem LengthFromFirstByte.cbRrH : LengthFromFirstByte.Statement (.cbRrH) := fun _ => rfl
theorem LengthFromFirstByte.cbRrL : LengthFromFirstByte.Statement (.cbRrL) := fun _ => rfl
theorem LengthFromFirstByte.cbRrIndHl : LengthFromFirstByte.Statement (.cbRrIndHl) := fun _ => rfl
theorem LengthFromFirstByte.cbRrA : LengthFromFirstByte.Statement (.cbRrA) := fun _ => rfl
theorem LengthFromFirstByte.cbSlaB : LengthFromFirstByte.Statement (.cbSlaB) := fun _ => rfl
theorem LengthFromFirstByte.cbSlaC : LengthFromFirstByte.Statement (.cbSlaC) := fun _ => rfl
theorem LengthFromFirstByte.cbSlaD : LengthFromFirstByte.Statement (.cbSlaD) := fun _ => rfl
theorem LengthFromFirstByte.cbSlaE : LengthFromFirstByte.Statement (.cbSlaE) := fun _ => rfl
theorem LengthFromFirstByte.cbSlaH : LengthFromFirstByte.Statement (.cbSlaH) := fun _ => rfl
theorem LengthFromFirstByte.cbSlaL : LengthFromFirstByte.Statement (.cbSlaL) := fun _ => rfl
theorem LengthFromFirstByte.cbSlaIndHl : LengthFromFirstByte.Statement (.cbSlaIndHl) := fun _ => rfl
theorem LengthFromFirstByte.cbSlaA : LengthFromFirstByte.Statement (.cbSlaA) := fun _ => rfl
theorem LengthFromFirstByte.cbSraB : LengthFromFirstByte.Statement (.cbSraB) := fun _ => rfl
theorem LengthFromFirstByte.cbSraC : LengthFromFirstByte.Statement (.cbSraC) := fun _ => rfl
theorem LengthFromFirstByte.cbSraD : LengthFromFirstByte.Statement (.cbSraD) := fun _ => rfl
theorem LengthFromFirstByte.cbSraE : LengthFromFirstByte.Statement (.cbSraE) := fun _ => rfl
theorem LengthFromFirstByte.cbSraH : LengthFromFirstByte.Statement (.cbSraH) := fun _ => rfl
theorem LengthFromFirstByte.cbSraL : LengthFromFirstByte.Statement (.cbSraL) := fun _ => rfl
theorem LengthFromFirstByte.cbSraIndHl : LengthFromFirstByte.Statement (.cbSraIndHl) := fun _ => rfl
theorem LengthFromFirstByte.cbSraA : LengthFromFirstByte.Statement (.cbSraA) := fun _ => rfl
theorem LengthFromFirstByte.cbSwapB : LengthFromFirstByte.Statement (.cbSwapB) := fun _ => rfl
theorem LengthFromFirstByte.cbSwapC : LengthFromFirstByte.Statement (.cbSwapC) := fun _ => rfl
theorem LengthFromFirstByte.cbSwapD : LengthFromFirstByte.Statement (.cbSwapD) := fun _ => rfl
theorem LengthFromFirstByte.cbSwapE : LengthFromFirstByte.Statement (.cbSwapE) := fun _ => rfl
theorem LengthFromFirstByte.cbSwapH : LengthFromFirstByte.Statement (.cbSwapH) := fun _ => rfl
theorem LengthFromFirstByte.cbSwapL : LengthFromFirstByte.Statement (.cbSwapL) := fun _ => rfl
theorem LengthFromFirstByte.cbSwapIndHl : LengthFromFirstByte.Statement (.cbSwapIndHl) := fun _ => rfl
theorem LengthFromFirstByte.cbSwapA : LengthFromFirstByte.Statement (.cbSwapA) := fun _ => rfl
theorem LengthFromFirstByte.cbSrlB : LengthFromFirstByte.Statement (.cbSrlB) := fun _ => rfl
theorem LengthFromFirstByte.cbSrlC : LengthFromFirstByte.Statement (.cbSrlC) := fun _ => rfl
theorem LengthFromFirstByte.cbSrlD : LengthFromFirstByte.Statement (.cbSrlD) := fun _ => rfl
theorem LengthFromFirstByte.cbSrlE : LengthFromFirstByte.Statement (.cbSrlE) := fun _ => rfl
theorem LengthFromFirstByte.cbSrlH : LengthFromFirstByte.Statement (.cbSrlH) := fun _ => rfl
theorem LengthFromFirstByte.cbSrlL : LengthFromFirstByte.Statement (.cbSrlL) := fun _ => rfl
theorem LengthFromFirstByte.cbSrlIndHl : LengthFromFirstByte.Statement (.cbSrlIndHl) := fun _ => rfl
theorem LengthFromFirstByte.cbSrlA : LengthFromFirstByte.Statement (.cbSrlA) := fun _ => rfl
theorem LengthFromFirstByte.cbBit0B : LengthFromFirstByte.Statement (.cbBit0B) := fun _ => rfl
theorem LengthFromFirstByte.cbBit0C : LengthFromFirstByte.Statement (.cbBit0C) := fun _ => rfl
theorem LengthFromFirstByte.cbBit0D : LengthFromFirstByte.Statement (.cbBit0D) := fun _ => rfl
theorem LengthFromFirstByte.cbBit0E : LengthFromFirstByte.Statement (.cbBit0E) := fun _ => rfl
theorem LengthFromFirstByte.cbBit0H : LengthFromFirstByte.Statement (.cbBit0H) := fun _ => rfl
theorem LengthFromFirstByte.cbBit0L : LengthFromFirstByte.Statement (.cbBit0L) := fun _ => rfl
theorem LengthFromFirstByte.cbBit0IndHl : LengthFromFirstByte.Statement (.cbBit0IndHl) := fun _ => rfl
theorem LengthFromFirstByte.cbBit0A : LengthFromFirstByte.Statement (.cbBit0A) := fun _ => rfl
theorem LengthFromFirstByte.cbBit1B : LengthFromFirstByte.Statement (.cbBit1B) := fun _ => rfl
theorem LengthFromFirstByte.cbBit1C : LengthFromFirstByte.Statement (.cbBit1C) := fun _ => rfl
theorem LengthFromFirstByte.cbBit1D : LengthFromFirstByte.Statement (.cbBit1D) := fun _ => rfl
theorem LengthFromFirstByte.cbBit1E : LengthFromFirstByte.Statement (.cbBit1E) := fun _ => rfl
theorem LengthFromFirstByte.cbBit1H : LengthFromFirstByte.Statement (.cbBit1H) := fun _ => rfl
theorem LengthFromFirstByte.cbBit1L : LengthFromFirstByte.Statement (.cbBit1L) := fun _ => rfl
theorem LengthFromFirstByte.cbBit1IndHl : LengthFromFirstByte.Statement (.cbBit1IndHl) := fun _ => rfl
theorem LengthFromFirstByte.cbBit1A : LengthFromFirstByte.Statement (.cbBit1A) := fun _ => rfl
theorem LengthFromFirstByte.cbBit2B : LengthFromFirstByte.Statement (.cbBit2B) := fun _ => rfl
theorem LengthFromFirstByte.cbBit2C : LengthFromFirstByte.Statement (.cbBit2C) := fun _ => rfl
theorem LengthFromFirstByte.cbBit2D : LengthFromFirstByte.Statement (.cbBit2D) := fun _ => rfl
theorem LengthFromFirstByte.cbBit2E : LengthFromFirstByte.Statement (.cbBit2E) := fun _ => rfl
theorem LengthFromFirstByte.cbBit2H : LengthFromFirstByte.Statement (.cbBit2H) := fun _ => rfl
theorem LengthFromFirstByte.cbBit2L : LengthFromFirstByte.Statement (.cbBit2L) := fun _ => rfl
theorem LengthFromFirstByte.cbBit2IndHl : LengthFromFirstByte.Statement (.cbBit2IndHl) := fun _ => rfl
theorem LengthFromFirstByte.cbBit2A : LengthFromFirstByte.Statement (.cbBit2A) := fun _ => rfl
theorem LengthFromFirstByte.cbBit3B : LengthFromFirstByte.Statement (.cbBit3B) := fun _ => rfl
theorem LengthFromFirstByte.cbBit3C : LengthFromFirstByte.Statement (.cbBit3C) := fun _ => rfl
theorem LengthFromFirstByte.cbBit3D : LengthFromFirstByte.Statement (.cbBit3D) := fun _ => rfl
theorem LengthFromFirstByte.cbBit3E : LengthFromFirstByte.Statement (.cbBit3E) := fun _ => rfl
theorem LengthFromFirstByte.cbBit3H : LengthFromFirstByte.Statement (.cbBit3H) := fun _ => rfl
theorem LengthFromFirstByte.cbBit3L : LengthFromFirstByte.Statement (.cbBit3L) := fun _ => rfl
theorem LengthFromFirstByte.cbBit3IndHl : LengthFromFirstByte.Statement (.cbBit3IndHl) := fun _ => rfl
theorem LengthFromFirstByte.cbBit3A : LengthFromFirstByte.Statement (.cbBit3A) := fun _ => rfl
theorem LengthFromFirstByte.cbBit4B : LengthFromFirstByte.Statement (.cbBit4B) := fun _ => rfl
theorem LengthFromFirstByte.cbBit4C : LengthFromFirstByte.Statement (.cbBit4C) := fun _ => rfl
theorem LengthFromFirstByte.cbBit4D : LengthFromFirstByte.Statement (.cbBit4D) := fun _ => rfl
theorem LengthFromFirstByte.cbBit4E : LengthFromFirstByte.Statement (.cbBit4E) := fun _ => rfl
theorem LengthFromFirstByte.cbBit4H : LengthFromFirstByte.Statement (.cbBit4H) := fun _ => rfl
theorem LengthFromFirstByte.cbBit4L : LengthFromFirstByte.Statement (.cbBit4L) := fun _ => rfl
theorem LengthFromFirstByte.cbBit4IndHl : LengthFromFirstByte.Statement (.cbBit4IndHl) := fun _ => rfl
theorem LengthFromFirstByte.cbBit4A : LengthFromFirstByte.Statement (.cbBit4A) := fun _ => rfl
theorem LengthFromFirstByte.cbBit5B : LengthFromFirstByte.Statement (.cbBit5B) := fun _ => rfl
theorem LengthFromFirstByte.cbBit5C : LengthFromFirstByte.Statement (.cbBit5C) := fun _ => rfl
theorem LengthFromFirstByte.cbBit5D : LengthFromFirstByte.Statement (.cbBit5D) := fun _ => rfl
theorem LengthFromFirstByte.cbBit5E : LengthFromFirstByte.Statement (.cbBit5E) := fun _ => rfl
theorem LengthFromFirstByte.cbBit5H : LengthFromFirstByte.Statement (.cbBit5H) := fun _ => rfl
theorem LengthFromFirstByte.cbBit5L : LengthFromFirstByte.Statement (.cbBit5L) := fun _ => rfl
theorem LengthFromFirstByte.cbBit5IndHl : LengthFromFirstByte.Statement (.cbBit5IndHl) := fun _ => rfl
theorem LengthFromFirstByte.cbBit5A : LengthFromFirstByte.Statement (.cbBit5A) := fun _ => rfl
theorem LengthFromFirstByte.cbBit6B : LengthFromFirstByte.Statement (.cbBit6B) := fun _ => rfl
theorem LengthFromFirstByte.cbBit6C : LengthFromFirstByte.Statement (.cbBit6C) := fun _ => rfl
theorem LengthFromFirstByte.cbBit6D : LengthFromFirstByte.Statement (.cbBit6D) := fun _ => rfl
theorem LengthFromFirstByte.cbBit6E : LengthFromFirstByte.Statement (.cbBit6E) := fun _ => rfl
theorem LengthFromFirstByte.cbBit6H : LengthFromFirstByte.Statement (.cbBit6H) := fun _ => rfl
theorem LengthFromFirstByte.cbBit6L : LengthFromFirstByte.Statement (.cbBit6L) := fun _ => rfl
theorem LengthFromFirstByte.cbBit6IndHl : LengthFromFirstByte.Statement (.cbBit6IndHl) := fun _ => rfl
theorem LengthFromFirstByte.cbBit6A : LengthFromFirstByte.Statement (.cbBit6A) := fun _ => rfl
theorem LengthFromFirstByte.cbBit7B : LengthFromFirstByte.Statement (.cbBit7B) := fun _ => rfl
theorem LengthFromFirstByte.cbBit7C : LengthFromFirstByte.Statement (.cbBit7C) := fun _ => rfl
theorem LengthFromFirstByte.cbBit7D : LengthFromFirstByte.Statement (.cbBit7D) := fun _ => rfl
theorem LengthFromFirstByte.cbBit7E : LengthFromFirstByte.Statement (.cbBit7E) := fun _ => rfl
theorem LengthFromFirstByte.cbBit7H : LengthFromFirstByte.Statement (.cbBit7H) := fun _ => rfl
theorem LengthFromFirstByte.cbBit7L : LengthFromFirstByte.Statement (.cbBit7L) := fun _ => rfl
theorem LengthFromFirstByte.cbBit7IndHl : LengthFromFirstByte.Statement (.cbBit7IndHl) := fun _ => rfl
theorem LengthFromFirstByte.cbBit7A : LengthFromFirstByte.Statement (.cbBit7A) := fun _ => rfl
theorem LengthFromFirstByte.cbRes0B : LengthFromFirstByte.Statement (.cbRes0B) := fun _ => rfl
theorem LengthFromFirstByte.cbRes0C : LengthFromFirstByte.Statement (.cbRes0C) := fun _ => rfl
theorem LengthFromFirstByte.cbRes0D : LengthFromFirstByte.Statement (.cbRes0D) := fun _ => rfl
theorem LengthFromFirstByte.cbRes0E : LengthFromFirstByte.Statement (.cbRes0E) := fun _ => rfl
theorem LengthFromFirstByte.cbRes0H : LengthFromFirstByte.Statement (.cbRes0H) := fun _ => rfl
theorem LengthFromFirstByte.cbRes0L : LengthFromFirstByte.Statement (.cbRes0L) := fun _ => rfl
theorem LengthFromFirstByte.cbRes0IndHl : LengthFromFirstByte.Statement (.cbRes0IndHl) := fun _ => rfl
theorem LengthFromFirstByte.cbRes0A : LengthFromFirstByte.Statement (.cbRes0A) := fun _ => rfl
theorem LengthFromFirstByte.cbRes1B : LengthFromFirstByte.Statement (.cbRes1B) := fun _ => rfl
theorem LengthFromFirstByte.cbRes1C : LengthFromFirstByte.Statement (.cbRes1C) := fun _ => rfl
theorem LengthFromFirstByte.cbRes1D : LengthFromFirstByte.Statement (.cbRes1D) := fun _ => rfl
theorem LengthFromFirstByte.cbRes1E : LengthFromFirstByte.Statement (.cbRes1E) := fun _ => rfl
theorem LengthFromFirstByte.cbRes1H : LengthFromFirstByte.Statement (.cbRes1H) := fun _ => rfl
theorem LengthFromFirstByte.cbRes1L : LengthFromFirstByte.Statement (.cbRes1L) := fun _ => rfl
theorem LengthFromFirstByte.cbRes1IndHl : LengthFromFirstByte.Statement (.cbRes1IndHl) := fun _ => rfl
theorem LengthFromFirstByte.cbRes1A : LengthFromFirstByte.Statement (.cbRes1A) := fun _ => rfl
theorem LengthFromFirstByte.cbRes2B : LengthFromFirstByte.Statement (.cbRes2B) := fun _ => rfl
theorem LengthFromFirstByte.cbRes2C : LengthFromFirstByte.Statement (.cbRes2C) := fun _ => rfl
theorem LengthFromFirstByte.cbRes2D : LengthFromFirstByte.Statement (.cbRes2D) := fun _ => rfl
theorem LengthFromFirstByte.cbRes2E : LengthFromFirstByte.Statement (.cbRes2E) := fun _ => rfl
theorem LengthFromFirstByte.cbRes2H : LengthFromFirstByte.Statement (.cbRes2H) := fun _ => rfl
theorem LengthFromFirstByte.cbRes2L : LengthFromFirstByte.Statement (.cbRes2L) := fun _ => rfl
theorem LengthFromFirstByte.cbRes2IndHl : LengthFromFirstByte.Statement (.cbRes2IndHl) := fun _ => rfl
theorem LengthFromFirstByte.cbRes2A : LengthFromFirstByte.Statement (.cbRes2A) := fun _ => rfl
theorem LengthFromFirstByte.cbRes3B : LengthFromFirstByte.Statement (.cbRes3B) := fun _ => rfl
theorem LengthFromFirstByte.cbRes3C : LengthFromFirstByte.Statement (.cbRes3C) := fun _ => rfl
theorem LengthFromFirstByte.cbRes3D : LengthFromFirstByte.Statement (.cbRes3D) := fun _ => rfl
theorem LengthFromFirstByte.cbRes3E : LengthFromFirstByte.Statement (.cbRes3E) := fun _ => rfl
theorem LengthFromFirstByte.cbRes3H : LengthFromFirstByte.Statement (.cbRes3H) := fun _ => rfl
theorem LengthFromFirstByte.cbRes3L : LengthFromFirstByte.Statement (.cbRes3L) := fun _ => rfl
theorem LengthFromFirstByte.cbRes3IndHl : LengthFromFirstByte.Statement (.cbRes3IndHl) := fun _ => rfl
theorem LengthFromFirstByte.cbRes3A : LengthFromFirstByte.Statement (.cbRes3A) := fun _ => rfl
theorem LengthFromFirstByte.cbRes4B : LengthFromFirstByte.Statement (.cbRes4B) := fun _ => rfl
theorem LengthFromFirstByte.cbRes4C : LengthFromFirstByte.Statement (.cbRes4C) := fun _ => rfl
theorem LengthFromFirstByte.cbRes4D : LengthFromFirstByte.Statement (.cbRes4D) := fun _ => rfl
theorem LengthFromFirstByte.cbRes4E : LengthFromFirstByte.Statement (.cbRes4E) := fun _ => rfl
theorem LengthFromFirstByte.cbRes4H : LengthFromFirstByte.Statement (.cbRes4H) := fun _ => rfl
theorem LengthFromFirstByte.cbRes4L : LengthFromFirstByte.Statement (.cbRes4L) := fun _ => rfl
theorem LengthFromFirstByte.cbRes4IndHl : LengthFromFirstByte.Statement (.cbRes4IndHl) := fun _ => rfl
theorem LengthFromFirstByte.cbRes4A : LengthFromFirstByte.Statement (.cbRes4A) := fun _ => rfl
theorem LengthFromFirstByte.cbRes5B : LengthFromFirstByte.Statement (.cbRes5B) := fun _ => rfl
theorem LengthFromFirstByte.cbRes5C : LengthFromFirstByte.Statement (.cbRes5C) := fun _ => rfl
theorem LengthFromFirstByte.cbRes5D : LengthFromFirstByte.Statement (.cbRes5D) := fun _ => rfl
theorem LengthFromFirstByte.cbRes5E : LengthFromFirstByte.Statement (.cbRes5E) := fun _ => rfl
theorem LengthFromFirstByte.cbRes5H : LengthFromFirstByte.Statement (.cbRes5H) := fun _ => rfl
theorem LengthFromFirstByte.cbRes5L : LengthFromFirstByte.Statement (.cbRes5L) := fun _ => rfl
theorem LengthFromFirstByte.cbRes5IndHl : LengthFromFirstByte.Statement (.cbRes5IndHl) := fun _ => rfl
theorem LengthFromFirstByte.cbRes5A : LengthFromFirstByte.Statement (.cbRes5A) := fun _ => rfl
theorem LengthFromFirstByte.cbRes6B : LengthFromFirstByte.Statement (.cbRes6B) := fun _ => rfl
theorem LengthFromFirstByte.cbRes6C : LengthFromFirstByte.Statement (.cbRes6C) := fun _ => rfl
theorem LengthFromFirstByte.cbRes6D : LengthFromFirstByte.Statement (.cbRes6D) := fun _ => rfl
theorem LengthFromFirstByte.cbRes6E : LengthFromFirstByte.Statement (.cbRes6E) := fun _ => rfl
theorem LengthFromFirstByte.cbRes6H : LengthFromFirstByte.Statement (.cbRes6H) := fun _ => rfl
theorem LengthFromFirstByte.cbRes6L : LengthFromFirstByte.Statement (.cbRes6L) := fun _ => rfl
theorem LengthFromFirstByte.cbRes6IndHl : LengthFromFirstByte.Statement (.cbRes6IndHl) := fun _ => rfl
theorem LengthFromFirstByte.cbRes6A : LengthFromFirstByte.Statement (.cbRes6A) := fun _ => rfl
theorem LengthFromFirstByte.cbRes7B : LengthFromFirstByte.Statement (.cbRes7B) := fun _ => rfl
theorem LengthFromFirstByte.cbRes7C : LengthFromFirstByte.Statement (.cbRes7C) := fun _ => rfl
theorem LengthFromFirstByte.cbRes7D : LengthFromFirstByte.Statement (.cbRes7D) := fun _ => rfl
theorem LengthFromFirstByte.cbRes7E : LengthFromFirstByte.Statement (.cbRes7E) := fun _ => rfl
theorem LengthFromFirstByte.cbRes7H : LengthFromFirstByte.Statement (.cbRes7H) := fun _ => rfl
theorem LengthFromFirstByte.cbRes7L : LengthFromFirstByte.Statement (.cbRes7L) := fun _ => rfl
theorem LengthFromFirstByte.cbRes7IndHl : LengthFromFirstByte.Statement (.cbRes7IndHl) := fun _ => rfl
theorem LengthFromFirstByte.cbRes7A : LengthFromFirstByte.Statement (.cbRes7A) := fun _ => rfl
theorem LengthFromFirstByte.cbSet0B : LengthFromFirstByte.Statement (.cbSet0B) := fun _ => rfl
theorem LengthFromFirstByte.cbSet0C : LengthFromFirstByte.Statement (.cbSet0C) := fun _ => rfl
theorem LengthFromFirstByte.cbSet0D : LengthFromFirstByte.Statement (.cbSet0D) := fun _ => rfl
theorem LengthFromFirstByte.cbSet0E : LengthFromFirstByte.Statement (.cbSet0E) := fun _ => rfl
theorem LengthFromFirstByte.cbSet0H : LengthFromFirstByte.Statement (.cbSet0H) := fun _ => rfl
theorem LengthFromFirstByte.cbSet0L : LengthFromFirstByte.Statement (.cbSet0L) := fun _ => rfl
theorem LengthFromFirstByte.cbSet0IndHl : LengthFromFirstByte.Statement (.cbSet0IndHl) := fun _ => rfl
theorem LengthFromFirstByte.cbSet0A : LengthFromFirstByte.Statement (.cbSet0A) := fun _ => rfl
theorem LengthFromFirstByte.cbSet1B : LengthFromFirstByte.Statement (.cbSet1B) := fun _ => rfl
theorem LengthFromFirstByte.cbSet1C : LengthFromFirstByte.Statement (.cbSet1C) := fun _ => rfl
theorem LengthFromFirstByte.cbSet1D : LengthFromFirstByte.Statement (.cbSet1D) := fun _ => rfl
theorem LengthFromFirstByte.cbSet1E : LengthFromFirstByte.Statement (.cbSet1E) := fun _ => rfl
theorem LengthFromFirstByte.cbSet1H : LengthFromFirstByte.Statement (.cbSet1H) := fun _ => rfl
theorem LengthFromFirstByte.cbSet1L : LengthFromFirstByte.Statement (.cbSet1L) := fun _ => rfl
theorem LengthFromFirstByte.cbSet1IndHl : LengthFromFirstByte.Statement (.cbSet1IndHl) := fun _ => rfl
theorem LengthFromFirstByte.cbSet1A : LengthFromFirstByte.Statement (.cbSet1A) := fun _ => rfl
theorem LengthFromFirstByte.cbSet2B : LengthFromFirstByte.Statement (.cbSet2B) := fun _ => rfl
theorem LengthFromFirstByte.cbSet2C : LengthFromFirstByte.Statement (.cbSet2C) := fun _ => rfl
theorem LengthFromFirstByte.cbSet2D : LengthFromFirstByte.Statement (.cbSet2D) := fun _ => rfl
theorem LengthFromFirstByte.cbSet2E : LengthFromFirstByte.Statement (.cbSet2E) := fun _ => rfl
theorem LengthFromFirstByte.cbSet2H : LengthFromFirstByte.Statement (.cbSet2H) := fun _ => rfl
theorem LengthFromFirstByte.cbSet2L : LengthFromFirstByte.Statement (.cbSet2L) := fun _ => rfl
theorem LengthFromFirstByte.cbSet2IndHl : LengthFromFirstByte.Statement (.cbSet2IndHl) := fun _ => rfl
theorem LengthFromFirstByte.cbSet2A : LengthFromFirstByte.Statement (.cbSet2A) := fun _ => rfl
theorem LengthFromFirstByte.cbSet3B : LengthFromFirstByte.Statement (.cbSet3B) := fun _ => rfl
theorem LengthFromFirstByte.cbSet3C : LengthFromFirstByte.Statement (.cbSet3C) := fun _ => rfl
theorem LengthFromFirstByte.cbSet3D : LengthFromFirstByte.Statement (.cbSet3D) := fun _ => rfl
theorem LengthFromFirstByte.cbSet3E : LengthFromFirstByte.Statement (.cbSet3E) := fun _ => rfl
theorem LengthFromFirstByte.cbSet3H : LengthFromFirstByte.Statement (.cbSet3H) := fun _ => rfl
theorem LengthFromFirstByte.cbSet3L : LengthFromFirstByte.Statement (.cbSet3L) := fun _ => rfl
theorem LengthFromFirstByte.cbSet3IndHl : LengthFromFirstByte.Statement (.cbSet3IndHl) := fun _ => rfl
theorem LengthFromFirstByte.cbSet3A : LengthFromFirstByte.Statement (.cbSet3A) := fun _ => rfl
theorem LengthFromFirstByte.cbSet4B : LengthFromFirstByte.Statement (.cbSet4B) := fun _ => rfl
theorem LengthFromFirstByte.cbSet4C : LengthFromFirstByte.Statement (.cbSet4C) := fun _ => rfl
theorem LengthFromFirstByte.cbSet4D : LengthFromFirstByte.Statement (.cbSet4D) := fun _ => rfl
theorem LengthFromFirstByte.cbSet4E : LengthFromFirstByte.Statement (.cbSet4E) := fun _ => rfl
theorem LengthFromFirstByte.cbSet4H : LengthFromFirstByte.Statement (.cbSet4H) := fun _ => rfl
theorem LengthFromFirstByte.cbSet4L : LengthFromFirstByte.Statement (.cbSet4L) := fun _ => rfl
theorem LengthFromFirstByte.cbSet4IndHl : LengthFromFirstByte.Statement (.cbSet4IndHl) := fun _ => rfl
theorem LengthFromFirstByte.cbSet4A : LengthFromFirstByte.Statement (.cbSet4A) := fun _ => rfl
theorem LengthFromFirstByte.cbSet5B : LengthFromFirstByte.Statement (.cbSet5B) := fun _ => rfl
theorem LengthFromFirstByte.cbSet5C : LengthFromFirstByte.Statement (.cbSet5C) := fun _ => rfl
theorem LengthFromFirstByte.cbSet5D : LengthFromFirstByte.Statement (.cbSet5D) := fun _ => rfl
theorem LengthFromFirstByte.cbSet5E : LengthFromFirstByte.Statement (.cbSet5E) := fun _ => rfl
theorem LengthFromFirstByte.cbSet5H : LengthFromFirstByte.Statement (.cbSet5H) := fun _ => rfl
theorem LengthFromFirstByte.cbSet5L : LengthFromFirstByte.Statement (.cbSet5L) := fun _ => rfl
theorem LengthFromFirstByte.cbSet5IndHl : LengthFromFirstByte.Statement (.cbSet5IndHl) := fun _ => rfl
theorem LengthFromFirstByte.cbSet5A : LengthFromFirstByte.Statement (.cbSet5A) := fun _ => rfl
theorem LengthFromFirstByte.cbSet6B : LengthFromFirstByte.Statement (.cbSet6B) := fun _ => rfl
theorem LengthFromFirstByte.cbSet6C : LengthFromFirstByte.Statement (.cbSet6C) := fun _ => rfl
theorem LengthFromFirstByte.cbSet6D : LengthFromFirstByte.Statement (.cbSet6D) := fun _ => rfl
theorem LengthFromFirstByte.cbSet6E : LengthFromFirstByte.Statement (.cbSet6E) := fun _ => rfl
theorem LengthFromFirstByte.cbSet6H : LengthFromFirstByte.Statement (.cbSet6H) := fun _ => rfl
theorem LengthFromFirstByte.cbSet6L : LengthFromFirstByte.Statement (.cbSet6L) := fun _ => rfl
theorem LengthFromFirstByte.cbSet6IndHl : LengthFromFirstByte.Statement (.cbSet6IndHl) := fun _ => rfl
theorem LengthFromFirstByte.cbSet6A : LengthFromFirstByte.Statement (.cbSet6A) := fun _ => rfl
theorem LengthFromFirstByte.cbSet7B : LengthFromFirstByte.Statement (.cbSet7B) := fun _ => rfl
theorem LengthFromFirstByte.cbSet7C : LengthFromFirstByte.Statement (.cbSet7C) := fun _ => rfl
theorem LengthFromFirstByte.cbSet7D : LengthFromFirstByte.Statement (.cbSet7D) := fun _ => rfl
theorem LengthFromFirstByte.cbSet7E : LengthFromFirstByte.Statement (.cbSet7E) := fun _ => rfl
theorem LengthFromFirstByte.cbSet7H : LengthFromFirstByte.Statement (.cbSet7H) := fun _ => rfl
theorem LengthFromFirstByte.cbSet7L : LengthFromFirstByte.Statement (.cbSet7L) := fun _ => rfl
theorem LengthFromFirstByte.cbSet7IndHl : LengthFromFirstByte.Statement (.cbSet7IndHl) := fun _ => rfl
theorem LengthFromFirstByte.cbSet7A : LengthFromFirstByte.Statement (.cbSet7A) := fun _ => rfl

end Sys2Proof.Laws
end

