-- ==== Sys2Proof/Laws/Run.lean ====
section
/-! SUPPORT. The end of a run: what a stable end is, and that it is one. -/

namespace Sys2Proof.Machine

/-- Without an event still to come, the arrival of events only moves on in an empty list. -/
theorem State.arrive_of_noEvents {s : State} (h : s.noEvents = true) : s.arrive = { s with inputs := s.inputs.tail } := by
  unfold State.arrive
  split
  · next e => cases s; simp_all
  · next now later e =>
    rw [State.noEvents, e, List.all_cons, Bool.and_eq_true, List.isEmpty_iff] at h
    rw [h.1, e]; rfl

theorem State.noEvents_tail {s : State} (h : s.noEvents = true) : s.inputs.tail.all List.isEmpty = true :=
  List.all_eq_true.2 fun _ hx => List.all_eq_true.1 h _ (List.mem_of_mem_tail hx)

/-- The two kinds of stable end. -/
theorem State.stableEnd_cases {s : State} (h : s.stableEnd = true) :
    (s.engine = .halted ∧ s.deliverable = false ∧ s.wakePending = false ∧ s.noEvents = true)
      ∨ s.engine = .stopped ∧ (s.ime = false ∨ s.pe = 0 ∧ s.noEvents = true) := by
  unfold State.stableEnd at h
  split at h
  · next e => simp only [Bool.and_eq_true, Bool.not_eq_true'] at h; exact .inl ⟨e, h.1.1, h.1.2, h.2⟩
  · next e =>
    simp only [Bool.or_eq_true, Bool.not_eq_true', Bool.and_eq_true, beq_iff_eq] at h; exact .inr ⟨e, h⟩
  all_goals cases h

/-- A stable end idles for a machine cycle, in which the events due arrive. -/
theorem step_of_stableEnd {s : State} (h : s.stableEnd = true) : step s = .next s.arrive.nextCycle := by
  have hb : s.atBoundary = true := by
    rcases State.stableEnd_cases h with ⟨e, -⟩ | ⟨e, -⟩ <;> rw [State.atBoundary, e] <;> rfl
  rw [step_of_boundary hb]
  rcases State.stableEnd_cases h with ⟨e, hd, hw, hn⟩ | ⟨e, hi⟩
  · rw [State.arrive_of_noEvents hn]
    exact boundaryStep_of_halted_idle e hd hw
  · refine boundaryStep_of_stopped_idle ((State.arrive_engine s).trans e) ?_
    rcases hi with hi | ⟨hp, hn⟩
    · simp [State.deliverable, hi]
    · rw [State.arrive_of_noEvents hn]
      show (s.ime && s.pe != 0) = false
      simp [hp]

/-- It stays a stable end. -/
theorem State.stableEnd_arrive {s : State} (h : s.stableEnd = true) : s.arrive.nextCycle.stableEnd = true := by
  rcases State.stableEnd_cases h with ⟨e, hd, hw, hn⟩ | ⟨e, hi | ⟨hp, hn⟩⟩
  · rw [State.arrive_of_noEvents hn]
    have ht := State.noEvents_tail hn
    simp only [State.stableEnd, State.nextCycle, e]
    show (!s.deliverable && !s.wakePending && s.inputs.tail.all List.isEmpty) = true
    rw [hd, hw, ht]; rfl
  · simp [State.stableEnd, e, hi]
  · rw [State.arrive_of_noEvents hn]
    have ht := State.noEvents_tail hn
    simp only [State.stableEnd, State.nextCycle, e]
    show (!s.ime || s.pe == 0 && s.inputs.tail.all List.isEmpty) = true
    rw [hp, ht]; simp

/-- One more step at the front. -/
theorem steps_succ {s t : State} (k : Nat) (h : step s = .next t) : steps (k + 1) s = steps k t := by
  rw [steps, h]

/-- A run that has not reached its address ends at a stable end. -/
theorem run_of_stableEnd {s : State} {stop : Word} (h : s.stableEnd = true) (hp : s.pc ≠ stop) (fuel : Nat) :
    run stop fuel s = .stable s := by
  have hp' : (s.pc == stop) = false := by simpa using hp
  cases fuel <;> simp [run, hp', h]

/-- A run whose next step faults has that fault for its outcome. -/
theorem run_of_fault {s : State} {stop : Word} {f : Fault} (hp : s.pc ≠ stop) (hs : s.stableEnd = false)
    (h : step s = .fault f) (fuel : Nat) : run stop (fuel + 1) s = .fault f := by
  have hp' : (s.pc == stop) = false := by simpa using hp
  simp [run, hp', hs, h]

end Sys2Proof.Machine
end

