-- ==== Sys2Proof/Tests/Slice0.lean ====
section
/-! SUPPORT. Tests. Expected values are the spec's own: the rows of its opcode table, the vectors of 95_test_vectors.md (cited by
section), and, for the witnesses, states that meet the hypotheses of a statement. -/

namespace Sys2Proof.Tests

open Sys2Proof.Machine

/-! ### Helpers -/

/-- Each list of bytes decodes to the instruction beside it, and nothing is left over. -/
def readsAs (rows : List (List Byte × Instr)) : Bool :=
  rows.all fun row => match decode row.1 with
    | .ok (i, []) => decide (i = row.2)
    | _ => false

/-- A state with the bytes of a program at PC. -/
def code (bytes : List Byte) (s : State) : State := s.putBytes s.pc bytes

/-- The state one step later, or the state itself where the step gives none. -/
def go (s : State) : State :=
  match step s with
  | .next t => t
  | .fault _ => s
  | .refused _ => s

/-- The state one step after the bytes are put at PC. -/
def after (bytes : List Byte) (s : State) : State := go (code bytes s)

/-! ### Well-formed terms: the one check -/

theorem test_ill_formed_refused : Instr.wellFormed .prefixCb = false := by decide
theorem test_well_formed_accepted :
    Instr.wellFormed (.callA16 0xFFFF) = true ∧ Instr.wellFormed .illegalD3 = true ∧ Instr.wellFormed .cbSet1E = true := by
  decide

/-! ### Decoding: the word of every row of the opcode table, with 5A and 1234 for the operands -/

theorem test_decode_base_00_to_1F : readsAs [
    ([0x00], .nop), ([0x01, 0x34, 0x12], .ldBcD16 0x1234), ([0x02], .ldIndBcA), ([0x03], .incBc), ([0x04], .incB),
    ([0x05], .decB), ([0x06, 0x5A], .ldBD8 0x5A), ([0x07], .rlca), ([0x08, 0x34, 0x12], .ldIndA16Sp 0x1234),
    ([0x09], .addHlBc), ([0x0A], .ldAIndBc), ([0x0B], .decBc), ([0x0C], .incC), ([0x0D], .decC),
    ([0x0E, 0x5A], .ldCD8 0x5A), ([0x0F], .rrca), ([0x10], .stop), ([0x11, 0x34, 0x12], .ldDeD16 0x1234),
    ([0x12], .ldIndDeA), ([0x13], .incDe), ([0x14], .incD), ([0x15], .decD), ([0x16, 0x5A], .ldDD8 0x5A),
    ([0x17], .rla), ([0x18, 0x5A], .jrE8 0x5A), ([0x19], .addHlDe), ([0x1A], .ldAIndDe), ([0x1B], .decDe),
    ([0x1C], .incE), ([0x1D], .decE), ([0x1E, 0x5A], .ldED8 0x5A), ([0x1F], .rra)] = true := by decide

theorem test_decode_base_20_to_3F : readsAs [
    ([0x20, 0x5A], .jrNzE8 0x5A), ([0x21, 0x34, 0x12], .ldHlD16 0x1234), ([0x22], .ldIndHlIncA), ([0x23], .incHl),
    ([0x24], .incH), ([0x25], .decH), ([0x26, 0x5A], .ldHD8 0x5A), ([0x27], .daa), ([0x28, 0x5A], .jrZE8 0x5A),
    ([0x29], .addHlHl), ([0x2A], .ldAIndHlInc), ([0x2B], .decHl), ([0x2C], .incL), ([0x2D], .decL),
    ([0x2E, 0x5A], .ldLD8 0x5A), ([0x2F], .cpl), ([0x30, 0x5A], .jrNcE8 0x5A), ([0x31, 0x34, 0x12], .ldSpD16 0x1234),
    ([0x32], .ldIndHlDecA), ([0x33], .incSp), ([0x34], .incIndHl), ([0x35], .decIndHl),
    ([0x36, 0x5A], .ldIndHlD8 0x5A), ([0x37], .scf), ([0x38, 0x5A], .jrCE8 0x5A), ([0x39], .addHlSp),
    ([0x3A], .ldAIndHlDec), ([0x3B], .decSp), ([0x3C], .incA), ([0x3D], .decA), ([0x3E, 0x5A], .ldAD8 0x5A),
    ([0x3F], .ccf)] = true := by decide

theorem test_decode_base_40_to_5F : readsAs [
    ([0x40], .ldBB), ([0x41], .ldBC), ([0x42], .ldBD), ([0x43], .ldBE), ([0x44], .ldBH), ([0x45], .ldBL),
    ([0x46], .ldBIndHl), ([0x47], .ldBA), ([0x48], .ldCB), ([0x49], .ldCC), ([0x4A], .ldCD), ([0x4B], .ldCE),
    ([0x4C], .ldCH), ([0x4D], .ldCL), ([0x4E], .ldCIndHl), ([0x4F], .ldCA), ([0x50], .ldDB), ([0x51], .ldDC),
    ([0x52], .ldDD), ([0x53], .ldDE), ([0x54], .ldDH), ([0x55], .ldDL), ([0x56], .ldDIndHl), ([0x57], .ldDA),
    ([0x58], .ldEB), ([0x59], .ldEC), ([0x5A], .ldED), ([0x5B], .ldEE), ([0x5C], .ldEH), ([0x5D], .ldEL),
    ([0x5E], .ldEIndHl), ([0x5F], .ldEA)] = true := by decide

theorem test_decode_base_60_to_7F : readsAs [
    ([0x60], .ldHB), ([0x61], .ldHC), ([0x62], .ldHD), ([0x63], .ldHE), ([0x64], .ldHH), ([0x65], .ldHL),
    ([0x66], .ldHIndHl), ([0x67], .ldHA), ([0x68], .ldLB), ([0x69], .ldLC), ([0x6A], .ldLD), ([0x6B], .ldLE),
    ([0x6C], .ldLH), ([0x6D], .ldLL), ([0x6E], .ldLIndHl), ([0x6F], .ldLA), ([0x70], .ldIndHlB), ([0x71], .ldIndHlC),
    ([0x72], .ldIndHlD), ([0x73], .ldIndHlE), ([0x74], .ldIndHlH), ([0x75], .ldIndHlL), ([0x76], .halt),
    ([0x77], .ldIndHlA), ([0x78], .ldAB), ([0x79], .ldAC), ([0x7A], .ldAD), ([0x7B], .ldAE), ([0x7C], .ldAH),
    ([0x7D], .ldAL), ([0x7E], .ldAIndHl), ([0x7F], .ldAA)] = true := by decide

theorem test_decode_base_80_to_9F : readsAs [
    ([0x80], .addAB), ([0x81], .addAC), ([0x82], .addAD), ([0x83], .addAE), ([0x84], .addAH), ([0x85], .addAL),
    ([0x86], .addAIndHl), ([0x87], .addAA), ([0x88], .adcAB), ([0x89], .adcAC), ([0x8A], .adcAD), ([0x8B], .adcAE),
    ([0x8C], .adcAH), ([0x8D], .adcAL), ([0x8E], .adcAIndHl), ([0x8F], .adcAA), ([0x90], .subAB), ([0x91], .subAC),
    ([0x92], .subAD), ([0x93], .subAE), ([0x94], .subAH), ([0x95], .subAL), ([0x96], .subAIndHl), ([0x97], .subAA),
    ([0x98], .sbcAB), ([0x99], .sbcAC), ([0x9A], .sbcAD), ([0x9B], .sbcAE), ([0x9C], .sbcAH), ([0x9D], .sbcAL),
    ([0x9E], .sbcAIndHl), ([0x9F], .sbcAA)] = true := by decide

theorem test_decode_base_A0_to_BF : readsAs [
    ([0xA0], .andAB), ([0xA1], .andAC), ([0xA2], .andAD), ([0xA3], .andAE), ([0xA4], .andAH), ([0xA5], .andAL),
    ([0xA6], .andAIndHl), ([0xA7], .andAA), ([0xA8], .xorAB), ([0xA9], .xorAC), ([0xAA], .xorAD), ([0xAB], .xorAE),
    ([0xAC], .xorAH), ([0xAD], .xorAL), ([0xAE], .xorAIndHl), ([0xAF], .xorAA), ([0xB0], .orAB), ([0xB1], .orAC),
    ([0xB2], .orAD), ([0xB3], .orAE), ([0xB4], .orAH), ([0xB5], .orAL), ([0xB6], .orAIndHl), ([0xB7], .orAA),
    ([0xB8], .cpAB), ([0xB9], .cpAC), ([0xBA], .cpAD), ([0xBB], .cpAE), ([0xBC], .cpAH), ([0xBD], .cpAL),
    ([0xBE], .cpAIndHl), ([0xBF], .cpAA)] = true := by decide

theorem test_decode_base_C0_to_DF : readsAs [
    ([0xC0], .retNz), ([0xC1], .popBc), ([0xC2, 0x34, 0x12], .jpNzA16 0x1234), ([0xC3, 0x34, 0x12], .jpA16 0x1234),
    ([0xC4, 0x34, 0x12], .callNzA16 0x1234), ([0xC5], .pushBc), ([0xC6, 0x5A], .addAD8 0x5A), ([0xC7], .rst00),
    ([0xC8], .retZ), ([0xC9], .ret), ([0xCA, 0x34, 0x12], .jpZA16 0x1234), ([0xCB], .prefixCb),
    ([0xCC, 0x34, 0x12], .callZA16 0x1234), ([0xCD, 0x34, 0x12], .callA16 0x1234), ([0xCE, 0x5A], .adcAD8 0x5A),
    ([0xCF], .rst08), ([0xD0], .retNc), ([0xD1], .popDe), ([0xD2, 0x34, 0x12], .jpNcA16 0x1234), ([0xD3], .illegalD3),
    ([0xD4, 0x34, 0x12], .callNcA16 0x1234), ([0xD5], .pushDe), ([0xD6, 0x5A], .subAD8 0x5A), ([0xD7], .rst10),
    ([0xD8], .retC), ([0xD9], .reti), ([0xDA, 0x34, 0x12], .jpCA16 0x1234), ([0xDB], .illegalDB),
    ([0xDC, 0x34, 0x12], .callCA16 0x1234), ([0xDD], .illegalDD), ([0xDE, 0x5A], .sbcAD8 0x5A), ([0xDF], .rst18)] = true := by decide

theorem test_decode_base_E0_to_FF : readsAs [
    ([0xE0, 0x5A], .ldhIndA8A 0x5A), ([0xE1], .popHl), ([0xE2], .ldhIndCA), ([0xE3], .illegalE3), ([0xE4], .illegalE4),
    ([0xE5], .pushHl), ([0xE6, 0x5A], .andAD8 0x5A), ([0xE7], .rst20), ([0xE8, 0x5A], .addSpE8 0x5A), ([0xE9], .jpHl),
    ([0xEA, 0x34, 0x12], .ldIndA16A 0x1234), ([0xEB], .illegalEB), ([0xEC], .illegalEC), ([0xED], .illegalED),
    ([0xEE, 0x5A], .xorAD8 0x5A), ([0xEF], .rst28), ([0xF0, 0x5A], .ldhAIndA8 0x5A), ([0xF1], .popAf),
    ([0xF2], .ldhAIndC), ([0xF3], .di), ([0xF4], .illegalF4), ([0xF5], .pushAf), ([0xF6, 0x5A], .orAD8 0x5A),
    ([0xF7], .rst30), ([0xF8, 0x5A], .ldHlSpE8 0x5A), ([0xF9], .ldSpHl), ([0xFA, 0x34, 0x12], .ldAIndA16 0x1234),
    ([0xFB], .ei), ([0xFC], .illegalFC), ([0xFD], .illegalFD), ([0xFE, 0x5A], .cpAD8 0x5A), ([0xFF], .rst38)] = true := by decide

theorem test_decode_ext_00_to_1F : readsAs [
    ([0xCB, 0x00], .cbRlcB), ([0xCB, 0x01], .cbRlcC), ([0xCB, 0x02], .cbRlcD), ([0xCB, 0x03], .cbRlcE),
    ([0xCB, 0x04], .cbRlcH), ([0xCB, 0x05], .cbRlcL), ([0xCB, 0x06], .cbRlcIndHl), ([0xCB, 0x07], .cbRlcA),
    ([0xCB, 0x08], .cbRrcB), ([0xCB, 0x09], .cbRrcC), ([0xCB, 0x0A], .cbRrcD), ([0xCB, 0x0B], .cbRrcE),
    ([0xCB, 0x0C], .cbRrcH), ([0xCB, 0x0D], .cbRrcL), ([0xCB, 0x0E], .cbRrcIndHl), ([0xCB, 0x0F], .cbRrcA),
    ([0xCB, 0x10], .cbRlB), ([0xCB, 0x11], .cbRlC), ([0xCB, 0x12], .cbRlD), ([0xCB, 0x13], .cbRlE),
    ([0xCB, 0x14], .cbRlH), ([0xCB, 0x15], .cbRlL), ([0xCB, 0x16], .cbRlIndHl), ([0xCB, 0x17], .cbRlA),
    ([0xCB, 0x18], .cbRrB), ([0xCB, 0x19], .cbRrC), ([0xCB, 0x1A], .cbRrD), ([0xCB, 0x1B], .cbRrE),
    ([0xCB, 0x1C], .cbRrH), ([0xCB, 0x1D], .cbRrL), ([0xCB, 0x1E], .cbRrIndHl), ([0xCB, 0x1F], .cbRrA)] = true := by decide

theorem test_decode_ext_20_to_3F : readsAs [
    ([0xCB, 0x20], .cbSlaB), ([0xCB, 0x21], .cbSlaC), ([0xCB, 0x22], .cbSlaD), ([0xCB, 0x23], .cbSlaE),
    ([0xCB, 0x24], .cbSlaH), ([0xCB, 0x25], .cbSlaL), ([0xCB, 0x26], .cbSlaIndHl), ([0xCB, 0x27], .cbSlaA),
    ([0xCB, 0x28], .cbSraB), ([0xCB, 0x29], .cbSraC), ([0xCB, 0x2A], .cbSraD), ([0xCB, 0x2B], .cbSraE),
    ([0xCB, 0x2C], .cbSraH), ([0xCB, 0x2D], .cbSraL), ([0xCB, 0x2E], .cbSraIndHl), ([0xCB, 0x2F], .cbSraA),
    ([0xCB, 0x30], .cbSwapB), ([0xCB, 0x31], .cbSwapC), ([0xCB, 0x32], .cbSwapD), ([0xCB, 0x33], .cbSwapE),
    ([0xCB, 0x34], .cbSwapH), ([0xCB, 0x35], .cbSwapL), ([0xCB, 0x36], .cbSwapIndHl), ([0xCB, 0x37], .cbSwapA),
    ([0xCB, 0x38], .cbSrlB), ([0xCB, 0x39], .cbSrlC), ([0xCB, 0x3A], .cbSrlD), ([0xCB, 0x3B], .cbSrlE),
    ([0xCB, 0x3C], .cbSrlH), ([0xCB, 0x3D], .cbSrlL), ([0xCB, 0x3E], .cbSrlIndHl), ([0xCB, 0x3F], .cbSrlA)] = true := by decide

theorem test_decode_ext_40_to_5F : readsAs [
    ([0xCB, 0x40], .cbBit0B), ([0xCB, 0x41], .cbBit0C), ([0xCB, 0x42], .cbBit0D), ([0xCB, 0x43], .cbBit0E),
    ([0xCB, 0x44], .cbBit0H), ([0xCB, 0x45], .cbBit0L), ([0xCB, 0x46], .cbBit0IndHl), ([0xCB, 0x47], .cbBit0A),
    ([0xCB, 0x48], .cbBit1B), ([0xCB, 0x49], .cbBit1C), ([0xCB, 0x4A], .cbBit1D), ([0xCB, 0x4B], .cbBit1E),
    ([0xCB, 0x4C], .cbBit1H), ([0xCB, 0x4D], .cbBit1L), ([0xCB, 0x4E], .cbBit1IndHl), ([0xCB, 0x4F], .cbBit1A),
    ([0xCB, 0x50], .cbBit2B), ([0xCB, 0x51], .cbBit2C), ([0xCB, 0x52], .cbBit2D), ([0xCB, 0x53], .cbBit2E),
    ([0xCB, 0x54], .cbBit2H), ([0xCB, 0x55], .cbBit2L), ([0xCB, 0x56], .cbBit2IndHl), ([0xCB, 0x57], .cbBit2A),
    ([0xCB, 0x58], .cbBit3B), ([0xCB, 0x59], .cbBit3C), ([0xCB, 0x5A], .cbBit3D), ([0xCB, 0x5B], .cbBit3E),
    ([0xCB, 0x5C], .cbBit3H), ([0xCB, 0x5D], .cbBit3L), ([0xCB, 0x5E], .cbBit3IndHl), ([0xCB, 0x5F], .cbBit3A)] = true := by decide

theorem test_decode_ext_60_to_7F : readsAs [
    ([0xCB, 0x60], .cbBit4B), ([0xCB, 0x61], .cbBit4C), ([0xCB, 0x62], .cbBit4D), ([0xCB, 0x63], .cbBit4E),
    ([0xCB, 0x64], .cbBit4H), ([0xCB, 0x65], .cbBit4L), ([0xCB, 0x66], .cbBit4IndHl), ([0xCB, 0x67], .cbBit4A),
    ([0xCB, 0x68], .cbBit5B), ([0xCB, 0x69], .cbBit5C), ([0xCB, 0x6A], .cbBit5D), ([0xCB, 0x6B], .cbBit5E),
    ([0xCB, 0x6C], .cbBit5H), ([0xCB, 0x6D], .cbBit5L), ([0xCB, 0x6E], .cbBit5IndHl), ([0xCB, 0x6F], .cbBit5A),
    ([0xCB, 0x70], .cbBit6B), ([0xCB, 0x71], .cbBit6C), ([0xCB, 0x72], .cbBit6D), ([0xCB, 0x73], .cbBit6E),
    ([0xCB, 0x74], .cbBit6H), ([0xCB, 0x75], .cbBit6L), ([0xCB, 0x76], .cbBit6IndHl), ([0xCB, 0x77], .cbBit6A),
    ([0xCB, 0x78], .cbBit7B), ([0xCB, 0x79], .cbBit7C), ([0xCB, 0x7A], .cbBit7D), ([0xCB, 0x7B], .cbBit7E),
    ([0xCB, 0x7C], .cbBit7H), ([0xCB, 0x7D], .cbBit7L), ([0xCB, 0x7E], .cbBit7IndHl), ([0xCB, 0x7F], .cbBit7A)] = true := by decide

theorem test_decode_ext_80_to_9F : readsAs [
    ([0xCB, 0x80], .cbRes0B), ([0xCB, 0x81], .cbRes0C), ([0xCB, 0x82], .cbRes0D), ([0xCB, 0x83], .cbRes0E),
    ([0xCB, 0x84], .cbRes0H), ([0xCB, 0x85], .cbRes0L), ([0xCB, 0x86], .cbRes0IndHl), ([0xCB, 0x87], .cbRes0A),
    ([0xCB, 0x88], .cbRes1B), ([0xCB, 0x89], .cbRes1C), ([0xCB, 0x8A], .cbRes1D), ([0xCB, 0x8B], .cbRes1E),
    ([0xCB, 0x8C], .cbRes1H), ([0xCB, 0x8D], .cbRes1L), ([0xCB, 0x8E], .cbRes1IndHl), ([0xCB, 0x8F], .cbRes1A),
    ([0xCB, 0x90], .cbRes2B), ([0xCB, 0x91], .cbRes2C), ([0xCB, 0x92], .cbRes2D), ([0xCB, 0x93], .cbRes2E),
    ([0xCB, 0x94], .cbRes2H), ([0xCB, 0x95], .cbRes2L), ([0xCB, 0x96], .cbRes2IndHl), ([0xCB, 0x97], .cbRes2A),
    ([0xCB, 0x98], .cbRes3B), ([0xCB, 0x99], .cbRes3C), ([0xCB, 0x9A], .cbRes3D), ([0xCB, 0x9B], .cbRes3E),
    ([0xCB, 0x9C], .cbRes3H), ([0xCB, 0x9D], .cbRes3L), ([0xCB, 0x9E], .cbRes3IndHl), ([0xCB, 0x9F], .cbRes3A)] = true := by decide

theorem test_decode_ext_A0_to_BF : readsAs [
    ([0xCB, 0xA0], .cbRes4B), ([0xCB, 0xA1], .cbRes4C), ([0xCB, 0xA2], .cbRes4D), ([0xCB, 0xA3], .cbRes4E),
    ([0xCB, 0xA4], .cbRes4H), ([0xCB, 0xA5], .cbRes4L), ([0xCB, 0xA6], .cbRes4IndHl), ([0xCB, 0xA7], .cbRes4A),
    ([0xCB, 0xA8], .cbRes5B), ([0xCB, 0xA9], .cbRes5C), ([0xCB, 0xAA], .cbRes5D), ([0xCB, 0xAB], .cbRes5E),
    ([0xCB, 0xAC], .cbRes5H), ([0xCB, 0xAD], .cbRes5L), ([0xCB, 0xAE], .cbRes5IndHl), ([0xCB, 0xAF], .cbRes5A),
    ([0xCB, 0xB0], .cbRes6B), ([0xCB, 0xB1], .cbRes6C), ([0xCB, 0xB2], .cbRes6D), ([0xCB, 0xB3], .cbRes6E),
    ([0xCB, 0xB4], .cbRes6H), ([0xCB, 0xB5], .cbRes6L), ([0xCB, 0xB6], .cbRes6IndHl), ([0xCB, 0xB7], .cbRes6A),
    ([0xCB, 0xB8], .cbRes7B), ([0xCB, 0xB9], .cbRes7C), ([0xCB, 0xBA], .cbRes7D), ([0xCB, 0xBB], .cbRes7E),
    ([0xCB, 0xBC], .cbRes7H), ([0xCB, 0xBD], .cbRes7L), ([0xCB, 0xBE], .cbRes7IndHl), ([0xCB, 0xBF], .cbRes7A)] = true := by decide

theorem test_decode_ext_C0_to_DF : readsAs [
    ([0xCB, 0xC0], .cbSet0B), ([0xCB, 0xC1], .cbSet0C), ([0xCB, 0xC2], .cbSet0D), ([0xCB, 0xC3], .cbSet0E),
    ([0xCB, 0xC4], .cbSet0H), ([0xCB, 0xC5], .cbSet0L), ([0xCB, 0xC6], .cbSet0IndHl), ([0xCB, 0xC7], .cbSet0A),
    ([0xCB, 0xC8], .cbSet1B), ([0xCB, 0xC9], .cbSet1C), ([0xCB, 0xCA], .cbSet1D), ([0xCB, 0xCB], .cbSet1E),
    ([0xCB, 0xCC], .cbSet1H), ([0xCB, 0xCD], .cbSet1L), ([0xCB, 0xCE], .cbSet1IndHl), ([0xCB, 0xCF], .cbSet1A),
    ([0xCB, 0xD0], .cbSet2B), ([0xCB, 0xD1], .cbSet2C), ([0xCB, 0xD2], .cbSet2D), ([0xCB, 0xD3], .cbSet2E),
    ([0xCB, 0xD4], .cbSet2H), ([0xCB, 0xD5], .cbSet2L), ([0xCB, 0xD6], .cbSet2IndHl), ([0xCB, 0xD7], .cbSet2A),
    ([0xCB, 0xD8], .cbSet3B), ([0xCB, 0xD9], .cbSet3C), ([0xCB, 0xDA], .cbSet3D), ([0xCB, 0xDB], .cbSet3E),
    ([0xCB, 0xDC], .cbSet3H), ([0xCB, 0xDD], .cbSet3L), ([0xCB, 0xDE], .cbSet3IndHl), ([0xCB, 0xDF], .cbSet3A)] = true := by decide

theorem test_decode_ext_E0_to_FF : readsAs [
    ([0xCB, 0xE0], .cbSet4B), ([0xCB, 0xE1], .cbSet4C), ([0xCB, 0xE2], .cbSet4D), ([0xCB, 0xE3], .cbSet4E),
    ([0xCB, 0xE4], .cbSet4H), ([0xCB, 0xE5], .cbSet4L), ([0xCB, 0xE6], .cbSet4IndHl), ([0xCB, 0xE7], .cbSet4A),
    ([0xCB, 0xE8], .cbSet5B), ([0xCB, 0xE9], .cbSet5C), ([0xCB, 0xEA], .cbSet5D), ([0xCB, 0xEB], .cbSet5E),
    ([0xCB, 0xEC], .cbSet5H), ([0xCB, 0xED], .cbSet5L), ([0xCB, 0xEE], .cbSet5IndHl), ([0xCB, 0xEF], .cbSet5A),
    ([0xCB, 0xF0], .cbSet6B), ([0xCB, 0xF1], .cbSet6C), ([0xCB, 0xF2], .cbSet6D), ([0xCB, 0xF3], .cbSet6E),
    ([0xCB, 0xF4], .cbSet6H), ([0xCB, 0xF5], .cbSet6L), ([0xCB, 0xF6], .cbSet6IndHl), ([0xCB, 0xF7], .cbSet6A),
    ([0xCB, 0xF8], .cbSet7B), ([0xCB, 0xF9], .cbSet7C), ([0xCB, 0xFA], .cbSet7D), ([0xCB, 0xFB], .cbSet7E),
    ([0xCB, 0xFC], .cbSet7H), ([0xCB, 0xFD], .cbSet7L), ([0xCB, 0xFE], .cbSet7IndHl), ([0xCB, 0xFF], .cbSet7A)] = true := by decide

/-! ### Decoding: words written bit by bit from the layouts of R91 to R102 -/

theorem test_decode_load_x1 : decode [0b01110000] = .ok (.ldIndHlB, []) := by decide
theorem test_decode_load16_p2 : decode [0b00100001, 0x00, 0xC0] = .ok (.ldHlD16 0xC000, []) := by decide
theorem test_decode_alu_y7 : decode [0b10111110] = .ok (.cpAIndHl, []) := by decide
theorem test_decode_alu16_q1 : decode [0b00011001] = .ok (.addHlDe, []) := by decide
theorem test_decode_rotate_y3 : decode [0b11001011, 0b00011101] = .ok (.cbRrL, []) := by decide
theorem test_decode_bit_b5 : decode [0b11001011, 0b10101110] = .ok (.cbRes5IndHl, []) := by decide
theorem test_decode_control_cc2 : decode [0b11010010, 0x34, 0x12] = .ok (.jpNcA16 0x1234, []) := by decide
theorem test_decode_system : decode [0b11110011, 0x77] = .ok (.di, [0x77]) := by decide
theorem test_decode_truncated : decode [0xCD, 0x00] = .error (.truncated 0xCD 1) ∧ decode [] = .error .noBytes := by decide
theorem test_table_word_base : decodeTableWord 8 0xC3 = some (.jpA16 0) ∧ decodeTableWord 8 0xCB = some .prefixCb := by decide
theorem test_table_word_ext : decodeTableWord 16 0xCB37 = some .cbSwapA ∧ decodeTableWord 16 0xCBCB = some .cbSet1E := by decide
theorem test_with_fetch_word : (go (State.reset.withFetchWord 16 0xCB37)).a = 0x10 := by decide

/-! ### One step each: the vectors of 95 §1 and §3 -/

theorem test_add_carries : (after [0xC6, 0x01] { State.reset with a := 0xFF, f := 0 }).af = 0x00B0 := by decide
theorem test_adc_takes_carry : (after [0xCE, 0x00] { State.reset with a := 0x0F, f := 0x10 }).af = 0x1020 := by decide
theorem test_sub_borrows : (after [0xD6, 0x01] { State.reset with a := 0x00, f := 0 }).af = 0xFF70 := by decide
theorem test_sbc_takes_borrow : (after [0xDE, 0x0F] { State.reset with a := 0x10, f := 0x10 }).af = 0x00E0 := by decide
theorem test_and : (after [0xE6, 0x0F] { State.reset with a := 0xF0, f := 0x50 }).af = 0x00A0 := by decide
theorem test_xor : (after [0xEE, 0x0F] { State.reset with a := 0xFF, f := 0xF0 }).af = 0xF000 := by decide
theorem test_or : (after [0xF6, 0x01] { State.reset with a := 0x80, f := 0xF0 }).af = 0x8100 := by decide
theorem test_cp_keeps_a : (after [0xFE, 0x10] { State.reset with a := 0x0F, f := 0 }).af = 0x0F50 := by decide
theorem test_inc_keeps_carry : (after [0x3C] { State.reset with a := 0x0F, f := 0x10 }).af = 0x1030 := by decide
theorem test_dec_half_borrow : let t := after [0x05] { State.reset with b := 0x00, f := 0 }
    t.b = 0xFF ∧ t.f = 0x60 := by decide
theorem test_inc_memory : let t := after [0x34] ({ State.reset with h := 0xC0, l := 0x00, f := 0 }.write8 0xC000 0xFF)
    t.read8 0xC000 = 0x00 ∧ t.f = 0xA0 ∧ t.cycleCount = 12 := by decide
theorem test_daa_after_subtract : (after [0x27] { State.reset with a := 0x4B, f := 0x60 }).af = 0x4540 := by decide
theorem test_cpl : (after [0x2F] { State.reset with a := 0x35, f := 0x80 }).af = 0xCAE0 := by decide
theorem test_scf : (after [0x37] { State.reset with f := 0xE0 }).f = 0x90 := by decide
theorem test_ccf : (after [0x3F] { State.reset with f := 0x70 }).f = 0x00 := by decide
theorem test_add_hl_keeps_z : let t := after [0x09] { State.reset with h := 0x8A, l := 0x23, b := 0x06, c := 0x05, f := 0x80 }
    t.hl = 0x9028 ∧ t.f = 0xA0 := by decide
theorem test_inc_sp_wraps : let t := after [0x33] { State.reset with sp := 0xFFFF, f := 0 }
    t.sp = 0x0000 ∧ t.f = 0x00 := by decide
theorem test_dec_pair : (after [0x0B] { State.reset with b := 0x01, c := 0x00 }).bc = 0x00FF := by decide
theorem test_add_sp_negative : let t := after [0xE8, 0xFE] { State.reset with sp := 0xFFFE, f := 0x80 }
    t.sp = 0xFFFC ∧ t.f = 0x30 ∧ t.cycleCount = 16 := by decide
theorem test_ld_hl_sp : let t := after [0xF8, 0xFF] { State.reset with sp := 0x0001, f := 0 }
    t.hl = 0x0000 ∧ t.f = 0x30 := by decide
theorem test_rlca : (after [0x07] { State.reset with a := 0x85, f := 0xE0 }).af = 0x0B10 := by decide
theorem test_rra_forces_z : (after [0x1F] { State.reset with a := 0x01, f := 0 }).af = 0x0010 := by decide
theorem test_rr_computes_z : (after [0xCB, 0x1F] { State.reset with a := 0x01, f := 0 }).af = 0x0090 := by decide
theorem test_rl_memory : let t := after [0xCB, 0x16] ({ State.reset with h := 0xC0, l := 0x00, f := 0x10 }.write8 0xC000 0x11)
    t.read8 0xC000 = 0x23 ∧ t.f = 0x00 ∧ t.cycleCount = 16 := by decide
theorem test_sra : let t := after [0xCB, 0x28] { State.reset with b := 0x8A, f := 0x10 }
    t.b = 0xC5 ∧ t.f = 0x00 := by decide
theorem test_swap : (after [0xCB, 0x37] { State.reset with a := 0xF1, f := 0xF0 }).af = 0x1F00 := by decide
theorem test_bit_memory : let t := after [0xCB, 0x46] ({ State.reset with h := 0xC0, l := 0x00, f := 0x40 }.write8 0xC000 0xFE)
    t.f = 0xA0 ∧ t.read8 0xC000 = 0xFE ∧ t.cycleCount = 12 := by decide
theorem test_res_memory : let t := after [0xCB, 0xBE] ({ State.reset with h := 0xC0, l := 0x00, f := 0xF0 }.write8 0xC000 0xFF)
    t.read8 0xC000 = 0x7F ∧ t.f = 0xF0 := by decide
theorem test_set_register : (after [0xCB, 0xCB] { State.reset with e := 0x00 }).e = 0x02 := by decide
theorem test_load_h_from_hl : (after [0x66] ({ State.reset with h := 0xC0, l := 0x00 }.write8 0xC000 0x5A)).hl = 0x5A00 := by decide
theorem test_store_high_page_if : (after [0xE0, 0x0F] { State.reset with a := 0xFF }).ifr = 0x1F := by decide
theorem test_load_if : (after [0xF0, 0x0F] { State.reset with ifr := 0x05 }).a = 0xE5 := by decide
theorem test_store_hl_inc_wraps : let t := after [0x22] { State.reset with h := 0xFF, l := 0xFF, a := 0x1F }
    t.ie = 0x1F ∧ t.hl = 0x0000 := by decide
theorem test_load_hl_dec : let t := after [0x3A] ({ State.reset with h := 0xC0, l := 0x01 }.write8 0xC001 0x0A)
    t.a = 0x0A ∧ t.hl = 0xC000 := by decide
theorem test_store_sp_wraps : let t := after [0x08, 0xFF, 0xFF] { State.reset with sp := 0x1234 }
    t.ie = 0x14 ∧ t.read8 0x0000 = 0x12 ∧ t.cycleCount = 20 := by decide
theorem test_push_af : let t := after [0xF5] { State.reset with a := 0x12, f := 0xF0 }
    t.read8 0xFFFD = 0x12 ∧ t.read8 0xFFFC = 0xF0 ∧ t.sp = 0xFFFC ∧ t.cycleCount = 16 := by decide
theorem test_pop_af_drops_nibble : let t := after [0xF1] (({ State.reset with sp := 0xC000 }.write8 0xC000 0x5F).write8 0xC001 0x12)
    t.af = 0x1250 ∧ t.sp = 0xC002 := by decide
theorem test_pop_wraps_through_ie : let t := after [0xE1] ({ State.reset with sp := 0xFFFF, ie := 0x15 }.write8 0x0000 0x9A)
    t.hl = 0x9A15 ∧ t.sp = 0x0001 ∧ t.cycleCount = 12 := by decide
theorem test_inc_pair_in_sprite_memory : let t := after [0x03] ({ State.reset with b := 0xFE, c := 0x10 }.write8 0xFE10 0x5A)
    t.bc = 0xFE11 ∧ t.read8 0xFE10 = 0x5A := by decide
theorem test_composed_write_wraps : let t := State.write16 State.reset 0xFFFF 0xABCD
    t.ie = 0x0D ∧ t.read8 0x0000 = 0xAB ∧ t.read16 0xFFFF = 0xAB0D := by decide
theorem test_jr_backwards : (after [0x18, 0x80] State.reset).pc = 0x0082 := by decide
theorem test_jr_not_taken : let t := after [0x20, 0x05] { State.reset with f := 0x80 }
    t.pc = 0x0102 ∧ t.cycleCount = 8 := by decide
theorem test_jp_taken : let t := after [0xCA, 0x00, 0x02] { State.reset with f := 0x80 }
    t.pc = 0x0200 ∧ t.cycleCount = 16 := by decide
theorem test_call : let t := after [0xCD, 0x00, 0x02] State.reset
    t.pc = 0x0200 ∧ t.sp = 0xFFFC ∧ t.read8 0xFFFD = 0x01 ∧ t.read8 0xFFFC = 0x03 ∧ t.cycleCount = 24 := by decide
theorem test_ret_cond : let t := after [0xC0] (({ State.reset with f := 0, sp := 0xFFFC }.write8 0xFFFC 0x03).write8 0xFFFD 0x01)
    t.pc = 0x0103 ∧ t.sp = 0xFFFE ∧ t.cycleCount = 20 := by decide
theorem test_reti_enables_at_once : let t := after [0xD9] (({ State.reset with sp := 0xFFFC }.write8 0xFFFC 0x03).write8 0xFFFD 0x01)
    t.pc = 0x0103 ∧ t.ime = true := by decide
theorem test_rst : let t := after [0xEF] { State.reset with pc := 0x0150 }
    t.pc = 0x0028 ∧ t.read8 0xFFFD = 0x01 ∧ t.read8 0xFFFC = 0x51 := by decide
theorem test_halt : let t := after [0x76] { State.reset with pc := 0x0150, ie := 0x01, ifr := 0x02 }
    t.pc = 0x0151 ∧ t.engine = .halted ∧ t.haltBug = false := by decide
theorem test_halt_bug : let t := after [0x76, 0x3C] { State.reset with pc := 0x0150, ie := 0x01, ifr := 0x01, a := 0 }
    t.pc = 0x0151 ∧ t.haltBug = true ∧ (go t).a = 0x01 ∧ (go t).pc = 0x0151 := by decide
theorem test_stop : let t := after [0x10, 0x00] { State.reset with pc := 0x0200, ime := true, ie := 0x10 }
    t.pc = 0x0201 ∧ t.engine = .stopped := by decide
theorem test_ei_then_nop : let t := after [0xFB, 0x00] State.reset
    t.ime = false ∧ t.imeSched = .due ∧ (go t).ime = true ∧ (go t).imeSched = .none := by decide
theorem test_ei_then_di : let t := after [0xFB, 0xF3] State.reset
    (go t).ime = false ∧ (go t).imeSched = .none := by decide
theorem test_unassigned_opcode : step (code [0xFD] State.reset) = .fault (.unknownOpcode 0xFD) := rfl

/-! ### Interrupts: the traces of 95 §4.2 -/

theorem test_dispatch_I1 : let t := go { State.reset with ime := true, ie := 0x01, ifr := 0x01 }
    t.pc = 0x0040 ∧ t.sp = 0xFFFC ∧ t.read8 0xFFFD = 0x01 ∧ t.read8 0xFFFC = 0x00 ∧ t.ime = false ∧ t.ifr = 0
      ∧ t.cycleCount = 20 := by decide
theorem test_priority_I2 : let t := go { State.reset with ime := true, ie := 0x1F, ifr := 0x14 }
    t.pc = 0x0050 ∧ t.ifr = 0x10 := by decide
theorem test_race_abort_I3 :
    machineCycle { State.reset with engine := .dispatchIe, ime := true, ie := 0x01, ifr := 0x00 }
      = .next { State.reset with engine := .fetch, ime := true, ie := 0x01 } := rfl
theorem test_late_request_I3b :
    machineCycle { State.reset with engine := .dispatchIe, ime := true, ie := 0x05, ifr := 0x04, inputs := [[.request 0]] }
      = .next { State.reset with engine := .dispatchPush1, ie := 0x05, ifr := 0x04 } := rfl
theorem test_halt_wake_I4 : let t := go (code [0x3C]
      { State.reset with pc := 0x0151, engine := .halted, ie := 0x04, ifr := 0x04, a := 0, inputs := [] })
    t.a = 0x01 ∧ t.pc = 0x0152 ∧ t.engine = .fetch := by decide
theorem test_stop_hangs_I12 : let s : State := { State.reset with pc := 0x0101, engine := .stopped, ie := 0x1F, ifr := 0x1F }
    s.stableEnd = true ∧ go s = { s with cycleCount := 4 } := by decide
theorem test_run_ends_at_its_address : (∃ t, run 0x0101 1 (code [0x00] State.reset) = .reached t) := ⟨_, rfl⟩
theorem test_run_ends_when_halted : (∃ t, run 0x0200 1 (code [0x76] State.reset) = .stable t) := ⟨_, rfl⟩
theorem test_run_never_ends_in_a_fault : run 0x0101 1 (code [0xD3] State.reset) = .fault (.unknownOpcode 0xD3) := rfl
theorem test_ext_first_cycle : machineCycle (code [0xCB, 0x37] State.reset)
    = .next { code [0xCB, 0x37] State.reset with pc := 0x0101, engine := .fetchExtendedPrefix } := rfl

/-! ### Witnesses: states and operands that meet the hypotheses of a statement, for each of its clauses -/

/-- A sound state: reset with one byte of memory, in the middle of the two-byte `LD B,d8`. -/
def working : State := { code [0x06, 0x7F] State.reset with engine := .workPending, cur := ⟨false, 0x06⟩ }

theorem witness_invariant : working.Inv ∧ (∃ t, step working = .next t) :=
  ⟨⟨by decide, by decide, by decide, by decide, fun _ => by decide, fun _ => by decide⟩, _, rfl⟩
theorem witness_invariant_dispatching : State.Inv { State.reset with engine := .dispatchIe, ime := true }
    ∧ (∃ t, step { State.reset with engine := .dispatchIe, ime := true } = .next t) :=
  ⟨⟨by decide, by decide, by decide, by decide, by decide, by decide⟩, _, rfl⟩
theorem witness_invariant_reference : let s : State := { State.reset with inputs := [[.request 1], [.request 0]] }
    s.Inv ∧ s.onReferencePlatform ∧ ∃ t, step s = .next t :=
  ⟨⟨by decide, by decide, by decide, by decide, by decide, by decide⟩, ⟨rfl, by decide⟩, _, rfl⟩
theorem witness_OnlyUnassignedOpcodesFault :
    (code [0xD3] State.reset).Inv ∧ step (code [0xD3] State.reset) = .fault (.unknownOpcode 0xD3) :=
  ⟨⟨by decide, by decide, by decide, by decide, by decide, by decide⟩, rfl⟩

theorem witness_DecodeReadsBackEveryEncoding :
    Instr.wellFormed (.ldBcD16 0xFFFF) = true ∧ Instr.wellFormed (.jrE8 0x80) = true ∧ Instr.wellFormed .cbSet7A = true := by decide
theorem witness_DecodedBytesAreTheEncoding :
    decode [0xCD, 0xFF, 0xFF, 0x01] = .ok (.callA16 0xFFFF, [0x01]) ∧ decode [0xCB] = .ok (.prefixCb, []) := by decide
theorem witness_StepCountLaw_rows : (0x00 : Byte) ≠ Config.cbByte ∧ (0xFF : Byte) ≠ Config.cbByte := by decide
theorem witness_StepCountLaw_abort_first : ∃ m, (OpRef.descriptor ⟨false, 0x20⟩).steps[0]? = some m
    ∧ m { State.reset with f := 0x80 } = .abort (State.readZ { State.reset with f := 0x80 }) := ⟨_, rfl, rfl⟩
theorem witness_StepCountLaw_abort_second : ∃ m, (OpRef.descriptor ⟨false, 0xC4⟩).steps[1]? = some m
    ∧ m { State.reset with f := 0x80 } = .abort (State.readW { State.reset with f := 0x80 }) := ⟨_, rfl, rfl⟩

theorem witness_EachFlagTouchesOnlyItsOwnBit :
    (∃ t, exec .scf State.reset = .next t) ∧ (flagPolicy (Instr.form .scf)).z = .kept
      ∧ (∃ t, exec .daa State.reset = .next t) ∧ (flagPolicy (Instr.form .daa)).n = .kept
      ∧ (∃ t, exec .ldBC State.reset = .next t) ∧ (flagPolicy (Instr.form .ldBC)).h = .kept
      ∧ (∃ t, exec .incB State.reset = .next t) ∧ (flagPolicy (Instr.form .incB)).c = .kept :=
  ⟨⟨_, rfl⟩, rfl, ⟨_, rfl⟩, rfl, ⟨_, rfl⟩, rfl, ⟨_, rfl⟩, rfl⟩
theorem witness_RequestSetsOnePendingBit :
    let s : State := { State.reset with ime := true, ie := 0x11, inputs := [[.request 4], []] }
    s.atBoundary = true ∧ s.inputs = [.request 4] :: [[]] ∧ s.ime = true ∧ s.ie.getLsbD 4 = true := by decide
theorem witness_DisableClearsAndCancels : State.pe { State.reset with ie := 0x10, ifr := 0x10 } ≠ 0 := by decide
theorem witness_DeferredEnable :
    State.imeSched { State.reset with imeSched := .due } = .due ∧ State.imeSched { State.reset with imeSched := .armed } = .armed
      ∧ State.reset.imeSched = .none := by decide
theorem witness_EnableTakesEffect : State.reset.ime = false ∧ State.reset.imeSched = .none ∧ Instr.nop ≠ .di
    ∧ ∃ t, exec .nop { State.reset with imeSched := .due } = .next t := ⟨rfl, rfl, by decide, _, rfl⟩
theorem witness_EnableThenDisableNeverEnables :
    let s := code [0xFB, 0xF3] { State.reset with ie := 0x01, ifr := 0x01 }
    s.engine = .fetch ∧ s.haltBug = false ∧ s.inputs = [] ∧ s.ime = false ∧ s.imeSched = .none
      ∧ s.readAt (s.cycleCount + 4) s.pc = 0xFB ∧ s.readAt (s.cycleCount + 8) (s.pc + 1) = 0xF3 := by decide
theorem witness_LowestPendingSourceWins :
    let s : State := { State.reset with ie := 0x1F, ifr := 0x14 }
    s.pe ≠ 0 ∧ lowest s.pe = 2 ∧ (1 : Irq) < lowest s.pe ∧ (4 : Irq) ≠ lowest s.pe ∧ s.pe.getLsbD 4 = true := by decide

theorem witness_DispatchPhases :
    State.reset.inputs = [] ∧ State.pe { State.reset with engine := .dispatchIe, ie := 1, ifr := 1 } ≠ 0
      ∧ State.pe { State.reset with engine := .dispatchIe } = 0
      ∧ (∃ s : State, s.inputs = [] ∧ s.engine = .dispatchIf) ∧ (∃ s : State, s.inputs = [] ∧ s.engine = .dispatchPush1)
      ∧ (∃ s : State, s.inputs = [] ∧ s.engine = .dispatchPush2) ∧ (∃ s : State, s.inputs = [] ∧ s.engine = .dispatchJump) :=
  ⟨rfl, by decide, by decide, ⟨{ State.reset with engine := .dispatchIf }, rfl, rfl⟩,
    ⟨{ State.reset with engine := .dispatchPush1 }, rfl, rfl⟩, ⟨{ State.reset with engine := .dispatchPush2 }, rfl, rfl⟩,
    ⟨{ State.reset with engine := .dispatchJump }, rfl, rfl⟩⟩
theorem witness_InterruptIsTakenBeforeTheFetch :
    let s : State := { State.reset with ime := true, ie := 1, ifr := 1 }
    s.inputs = [] ∧ s.ime = true ∧ s.pe ≠ 0 ∧ s.atBoundary = true ∧ State.atBoundary { s with engine := .halted } = true
      ∧ State.atBoundary { s with engine := .stopped } = true := by decide
theorem witness_DispatchNetEffect :
    let s : State := { State.reset with ime := true, ie := 1, ifr := 1, sp := 0x0002 }
    s.deliverable = true ∧ isController (s.sp - 1) = false ∧ isController (s.sp - 2) = false
      ∧ isController 0xFFFE = false ∧ (0xFFFE : Word) ≠ s.sp - 1 ∧ (0xFFFE : Word) ≠ s.sp - 2 := by decide
theorem witness_HaltedAndStopped :
    (let s : State := { State.reset with engine := .halted, ie := 1, ifr := 1 };
      s.inputs = [] ∧ s.engine = .halted ∧ s.ime = false ∧ s.pe ≠ 0 ∧ s.stableEnd = false ∧ ∃ t, step s = .next t)
    ∧ (let s : State := { State.reset with engine := .halted, ime := true, ie := 1, ifr := 2 };
      s.inputs = [] ∧ s.engine = .halted ∧ s.pe = 0)
    ∧ (let s : State := { State.reset with engine := .stopped, ie := 1, ifr := 1 };
      s.inputs = [] ∧ s.engine = .stopped ∧ s.deliverable = false)
    ∧ (let s : State := { State.reset with engine := .stopped, ime := true, ie := 1, ifr := 1 };
      s.inputs = [] ∧ s.engine = .stopped ∧ s.stableEnd = false ∧ ∃ t, step s = .next t) := by
  refine ⟨⟨rfl, rfl, rfl, by decide, rfl, _, rfl⟩, ⟨rfl, rfl, by decide⟩, ⟨rfl, rfl, rfl⟩, rfl, rfl, rfl, _, rfl⟩
theorem witness_HaltedAndStopped_stable :
    (let s : State := { State.reset with engine := .stopped, ie := 1, inputs := [[.request 0], [.write 0xFFFF 0x1F]] };
      s.engine = .stopped ∧ s.ime = false ∧ s.stableEnd = true ∧ s.pc ≠ 0x0000)
    ∧ (let s : State := { State.reset with engine := .halted, ime := true, ifr := 0x1F };
      s.engine = .halted ∧ s.ie = 0 ∧ s.inputs = [] ∧ s.stableEnd = true ∧ s.pc ≠ 0x0000) := by decide
theorem witness_EnableRegisterAccessors : State.reset.platform = .reference := rfl
theorem witness_HaltBugFetchDoesNotAdvance :
    let s := code [0x3E, 0x14] { State.reset with haltBug := true }
    s.engine = .fetch ∧ s.haltBug = true ∧ s.inputs = [] ∧ s.deliverable = false ∧ Instr.wellFormed (.ldAD8 0x3E) = true
      ∧ encode (.ldAD8 0x3E) = 0x3E :: [0x3E] ∧ s.readAt (s.cycleCount + 4) s.pc = 0x3E
      ∧ s.holdsAt (s.cycleCount + 8) s.pc [0x3E] := ⟨rfl, rfl, rfl, rfl, rfl, rfl, rfl, rfl, trivial⟩
theorem witness_StepRunsTheDecodedInstruction :
    let s := code [0xC6, 0x01] { State.reset with inputs := [[.request 3]] }
    s.engine = .fetch ∧ s.haltBug = false ∧ s.arrive.deliverable = false ∧ Instr.wellFormed (.addAD8 0x01) = true
      ∧ s.arrive.holdsAt (s.cycleCount + 4) s.pc (encode (.addAD8 0x01)) ∧ ∃ t, exec (.addAD8 0x01) s.arrive = .next t :=
  ⟨rfl, rfl, rfl, rfl, ⟨rfl, rfl, trivial⟩, _, rfl⟩
theorem witness_StepRunsTheDecodedInstruction_fault :
    let s := code [0xD3] State.reset
    s.engine = .fetch ∧ s.haltBug = false ∧ s.arrive.deliverable = false ∧ Instr.wellFormed .illegalD3 = true
      ∧ s.arrive.holdsAt (s.cycleCount + 4) s.pc (encode .illegalD3)
      ∧ exec .illegalD3 s.arrive = .fault (.unknownOpcode 0xD3) := ⟨rfl, rfl, rfl, rfl, ⟨rfl, trivial⟩, rfl⟩
theorem witness_StepAgreesWithTheEngine :
    let s : State := { State.reset with inputs := [[.request 0], [], [], [], [], [], [.request 1]] }
    s.atBoundary = true ∧ ∀ e ∈ (s.inputs.drop 1).take 5, e = [] := by decide
theorem witness_EveryFourthTickWorks : State.reset.tickDiv = 0 := by decide
theorem witness_InstructionCost :
    (∃ t, exec (.jrNzE8 5) { State.reset with f := 0 } = .next t)
      ∧ goesThrough (Instr.form (.jrNzE8 5)) { State.reset with f := 0 } = true
      ∧ (∃ t, exec (.jrNzE8 5) { State.reset with f := 0x80 } = .next t)
      ∧ goesThrough (Instr.form (.jrNzE8 5)) { State.reset with f := 0x80 } = false := ⟨⟨_, rfl⟩, rfl, ⟨_, rfl⟩, rfl⟩

theorem witness_ReadAfterWrite :
    isController 0xFFFD = false ∧ isController (0xFFFD + 1) = false ∧ isController 0x0000 = false
      ∧ isController 0xFF10 = false ∧ (0xFFFF : Word) ≠ 0xFFFE ∧ (0xFFFE : Word) ≠ 0xFFFF ∧ (0xFFFE : Word) ≠ 0xFFFF + 1
      ∧ State.reset.platform = .reference := by decide
theorem witness_MemoryIsCanonical :
    Memory.wf [(0, 1), (65535, 2)] = true ∧ Memory.wf [] = true ∧ Memory.wf [(3, 0)] = false ∧ Memory.wf [(4, 1), (3, 1)] = false := by
  decide
theorem witness_QuirkTouchesOnlySpriteMemory :
    ¬ armed .general 0 0xFDFF ∧ ¬ armed .general 0 0xFF00 ∧ ¬ armed .reference 0 0xFE00 ∧ State.reset.platform = .reference
      ∧ inOam 0xFDFF = false ∧ inOam 0xFF00 = false ∧ inOam 0xFE00 = true ∧ inOam 0xFEFF = true :=
  ⟨fun h => absurd h.1 (by decide), fun h => absurd h.1 (by decide), fun h => Bool.noConfusion h.2.1, rfl, by decide,
    by decide, by decide, by decide⟩

theorem witness_EveryAssignedInstructionCompletes :
    Instr.unassigned .nop = false ∧ Instr.unassigned .prefixCb = false ∧ Instr.unassigned .cbSet7A = false := by decide
theorem witness_UnassignedOpcodesFault :
    Instr.form .illegalD3 = .unassigned 0xD3 ∧ Instr.form .illegalFD = .unassigned 0xFD := by decide
theorem witness_LoadsIntoARegister :
    Instr.form .ldBC = .ldRegReg .b .c ∧ Instr.form (.ldAD8 0x42) = .ldRegImm .a 0x42 ∧ Instr.form .ldHIndHl = .ldRegHl .h
      ∧ Instr.form (.ldAIndA16 0xFFFF) = .ldAAbs 0xFFFF ∧ Instr.form (.ldhAIndA8 0xFF) = .ldhAImm 0xFF
      ∧ Instr.form .ldhAIndC = .ldhAC := by decide
theorem witness_StoresOfAByte :
    Instr.form .ldIndHlL = .ldHlReg .l ∧ Instr.form (.ldIndHlD8 0xFF) = .ldHlImm 0xFF
      ∧ Instr.form (.ldIndA16A 0xFFFF) = .ldAbsA 0xFFFF ∧ Instr.form (.ldhIndA8A 0x0F) = .ldhImmA 0x0F
      ∧ Instr.form .ldhIndCA = .ldhCA := by decide
theorem witness_IndirectLoadsAndStores :
    Instr.form .ldAIndBc = .ldAInd .bc ∧ Instr.form .ldAIndDe = .ldAInd .de ∧ Instr.form .ldAIndHlInc = .ldAInd .hlInc
      ∧ Instr.form .ldAIndHlDec = .ldAInd .hlDec ∧ Instr.form .ldIndBcA = .ldIndA .bc ∧ Instr.form .ldIndDeA = .ldIndA .de
      ∧ Instr.form .ldIndHlIncA = .ldIndA .hlInc ∧ Instr.form .ldIndHlDecA = .ldIndA .hlDec := by decide
theorem witness_SixteenBitLoads :
    Instr.form (.ldSpD16 0xFE00) = .ldPairImm .sp 0xFE00 ∧ Instr.form (.ldIndA16Sp 0xFFFF) = .ldAbsSp 0xFFFF
      ∧ Instr.form .ldSpHl = .ldSpHl := by decide
theorem witness_PushAndPop :
    Instr.form .pushAf = .push .af ∧ Instr.form .pushBc = .push .bc ∧ Instr.form .popAf = .pop .af
      ∧ Instr.form .popHl = .pop .hl := by decide
theorem witness_PopUndoesPush :
    let s : State := { State.reset with sp := 0xFFFF, platform := .general }
    Instr.form .pushBc = .push .bc ∧ Instr.form .popAf = .pop .af ∧ isController (s.sp - 1) = false
      ∧ isController (s.sp - 2) = false ∧ ¬ armed s.platform (s.cycleCount + 8) s.sp ∧ ¬ armed s.platform (s.cycleCount + 12) (s.sp - 1)
      ∧ ¬ armed s.platform (s.cycleCount + 16) (s.sp - 2) ∧ ¬ armed s.platform (s.cycleCount + 20) (s.sp - 1) :=
  ⟨rfl, rfl, by decide, by decide, fun h => absurd h.1 (by decide), fun h => absurd h.1 (by decide),
    fun h => absurd h.1 (by decide), fun h => absurd h.1 (by decide)⟩
theorem witness_AluOperand :
    AluOperand .addAB State.reset .add State.reset.b State.reset
      ∧ AluOperand .adcAIndHl State.reset .adc (State.reset.readAt 4 0x014D) { State.reset with cycleCount := 4 }
      ∧ AluOperand (.subAD8 1) State.reset .sub 1 State.reset ∧ AluOperand (.sbcAD8 0xFF) State.reset .sbc 0xFF State.reset
      ∧ AluOperand (.cpAD8 0) State.reset .cp 0 State.reset ∧ AluOperand (.andAD8 0x0F) State.reset .and 0x0F State.reset
      ∧ AluOperand (.xorAD8 0x0F) State.reset .xor 0x0F State.reset ∧ AluOperand (.orAD8 0x01) State.reset .or 0x01 State.reset :=
  ⟨.inl ⟨.b, rfl, rfl, rfl⟩, .inr (.inl ⟨rfl, rfl, rfl⟩), .inr (.inr ⟨rfl, rfl⟩), .inr (.inr ⟨rfl, rfl⟩),
    .inr (.inr ⟨rfl, rfl⟩), .inr (.inr ⟨rfl, rfl⟩), .inr (.inr ⟨rfl, rfl⟩), .inr (.inr ⟨rfl, rfl⟩)⟩
theorem witness_IncrementAndDecrement :
    Instr.form .incA = .incReg .a ∧ Instr.form .decB = .decReg .b ∧ Instr.form .incIndHl = .incHl
      ∧ Instr.form .decIndHl = .decHl := by decide
theorem witness_DecimalAdjustAfterAdd :
    let s : State := { State.reset with a := 0x99, b := 0x99 }
    (99 < 100) ∧ s.a = BitVec.ofNat 8 (99 / 10 * 16 + 99 % 10) ∧ s.b = BitVec.ofNat 8 (99 / 10 * 16 + 99 % 10) := by decide
theorem witness_SixteenBitArithmetic :
    Instr.form .addHlSp = .addHlPair .sp ∧ Instr.form .incDe = .incPair .de ∧ Instr.form .decBc = .decPair .bc := by decide
theorem witness_StackPointerPlusDisplacement :
    Instr.form (.addSpE8 0x80) = .addSpE 0x80 ∧ Instr.form (.ldHlSpE8 0x7F) = .ldHlSpE 0x7F := by decide
theorem witness_RotatesAndShifts :
    Instr.form .cbRlcB = .rotReg .rlc .b ∧ Instr.form .cbSrlA = .rotReg .srl .a ∧ Instr.form .cbSwapIndHl = .rotHl .swap := by decide
theorem witness_BitInstructions :
    Instr.form .cbBit7H = .bitReg 7 .h ∧ Instr.form .cbBit0IndHl = .bitHl 0 ∧ Instr.form .cbRes0A = .resReg 0 .a
      ∧ Instr.form .cbSet1E = .setReg 1 .e ∧ Instr.form .cbRes7IndHl = .resHl 7 ∧ Instr.form .cbSet7IndHl = .setHl 7 := by decide
theorem witness_Jumps :
    Instr.form (.jpA16 0xFFFF) = .jp 0xFFFF ∧ Instr.form .jpHl = .jpHl ∧ Instr.form (.jrE8 0x80) = .jr 0x80
      ∧ Instr.form (.jpNzA16 0) = .jpCond .nz 0 ∧ Instr.form (.jrCE8 0x7F) = .jrCond .c 0x7F := by decide
theorem witness_CallsAndRestarts :
    Instr.form (.callA16 0x0200) = .call 0x0200 ∧ Instr.form (.callNcA16 0) = .callCond .nc 0 ∧ Instr.form .rst38 = .rst 7 := by decide
theorem witness_Returns : Instr.form .ret = .ret ∧ Instr.form .retZ = .retCond .z ∧ Instr.form .reti = .reti := by decide
theorem witness_SystemInstructions :
    (let s : State := { State.reset with ie := 1, ifr := 1 };
      s.ime = false ∧ s.pe ≠ 0) ∧ ¬ (State.reset.ime = false ∧ State.reset.pe ≠ 0) := by decide

theorem witness_FrameOfRegisters :
    (∃ t, exec .cpAIndHl State.reset = .next t) ∧ Reg8.a ∉ writtenRegs (Instr.form .cpAIndHl)
      ∧ (∃ t, exec .popBc State.reset = .next t) ∧ Reg8.d ∉ writtenRegs (Instr.form .popBc) :=
  ⟨⟨_, rfl⟩, by decide, ⟨_, rfl⟩, by decide⟩
theorem witness_FlagSummary :
    (∃ t, exec .cbSwapA State.reset = .next t) ∧ (∃ t, exec .pushAf State.reset = .next t)
      ∧ flagPolicy (Instr.form .pushAf) = ⟨.kept, .kept, .kept, .kept⟩ := ⟨⟨_, rfl⟩, ⟨_, rfl⟩, rfl⟩
theorem witness_FrameOfControlState :
    (∃ t, exec .ldIndHlB State.reset = .next t) ∧ writesSp (Instr.form .ldIndHlB) = false
      ∧ writesPc (Instr.form .ldIndHlB) = false ∧ Instr.ldIndHlB ≠ .di ∧ Instr.ldIndHlB ≠ .ei ∧ Instr.ldIndHlB ≠ .reti
      ∧ Instr.ldIndHlB ≠ .halt ∧ Instr.ldIndHlB ≠ .stop ∧ Instr.ldIndHlB ≠ .prefixCb
      ∧ Config.ieAddr ∉ storedAddrs (Instr.form .ldIndHlB) State.reset
      ∧ Config.ifAddr ∉ storedAddrs (Instr.form .ldIndHlB) State.reset := by
  refine ⟨⟨_, rfl⟩, ?_⟩; decide
theorem witness_FrameOfMemory :
    (∃ t, exec .pushBc State.reset = .next t) ∧ (0xFFFE : Word) ∉ storedAddrs (Instr.form .pushBc) State.reset
      ∧ inOam 0xFFFE = false ∧ (0xFE10 : Word) ∉ storedAddrs (Instr.form .pushBc) State.reset
      ∧ ∀ q ∈ quirkCalls (Instr.form .pushBc) State.reset, ¬ armed State.reset.platform q.1 q.2 := by
  exact ⟨⟨_, rfl⟩, by decide, by decide, by decide, fun q _ h => Bool.noConfusion h.2.1⟩

end Sys2Proof.Tests
end

section
/-! PROOFS. What an instruction costs: the ticks its meaning adds to those of its bytes (R129, R401). -/

namespace Sys2Proof.Machine

/-- The ticks of the bytes and of the meaning add up to the cost of the row, whether or not a condition holds. -/
theorem nextForm_cost (f : Form) (s : State) :
    (nextForm f s).cycleCount + 4 * f.encode.length
      = s.cycleCount + (if goesThrough f s then formCycles f else (formCyclesNotTaken f).getD 0) := by
  cases f
  case halt => rw [nextForm_halt]; split <;> rfl
  case jpCond cc _ | jrCond cc _ | callCond cc _ | retCond cc =>
    cases h : s.cond cc <;> simp [goesThrough, formCycles, formCyclesNotTaken, Form.encode, h]
  all_goals simp [goesThrough, formCycles, Form.encode]

/-- Settles O25: a meaning that completes answers the next state of its operation, whose ticks `nextForm_cost` counts. -/
theorem instructionCost : Obligations.InstructionCost := by
  intro i s t h
  rw [exec_next h]
  exact nextForm_cost i.form s

end Sys2Proof.Machine
end

section
/-! PROOFS. The engine's scratch: the fields of a state that say where the engine is, its latches and the events still to come.
A micro-step and a meaning run on the rest of the state; `put` changes the scratch, and each shared operation commutes with it. -/

namespace Sys2Proof.Machine

/-- What the engine keeps for itself beside the machine's registers and memory. -/
structure Scratch where
  engine : EngineState
  cur : OpRef
  stepIdx : Nat
  w : Byte
  z : Byte
  irqIdx : Irq
  inputs : List (List Input)

/-- The scratch of a state. -/
def State.scratch (s : State) : Scratch := ⟨s.engine, s.cur, s.stepIdx, s.w, s.z, s.irqIdx, s.inputs⟩

/-- A state with other scratch. -/
def State.put (s : State) (p : Scratch) : State :=
  { s with engine := p.engine, cur := p.cur, stepIdx := p.stepIdx, w := p.w, z := p.z, irqIdx := p.irqIdx, inputs := p.inputs }

/-- The scratch with these bytes in the latches. -/
def Scratch.latch (w z : Byte) (p : Scratch) : Scratch := { p with w := w, z := z }

/-- The scratch with this row as the current one (R35). -/
def Scratch.select (r : OpRef) (p : Scratch) : Scratch := { p with cur := r }

/-- The scratch in which the steps of this row are about to run (R125, R126). -/
def Scratch.work (r : OpRef) (p : Scratch) : Scratch := { p with cur := r, stepIdx := 0, engine := .workPending }

/-- The scratch with the engine at Fetch. -/
def Scratch.atFetch (p : Scratch) : Scratch := { p with engine := .fetch }

section
variable (s : State) (p : Scratch)

/-! ### Reads do not see the scratch -/

@[simp] theorem State.put_a : (s.put p).a = s.a := rfl
@[simp] theorem State.put_sp : (s.put p).sp = s.sp := rfl
@[simp] theorem State.put_pc : (s.put p).pc = s.pc := rfl
@[simp] theorem State.put_hl : (s.put p).hl = s.hl := rfl
@[simp] theorem State.put_flagC : (s.put p).flagC = s.flagC := rfl
@[simp] theorem State.put_wz : (s.put p).wz = joinBytes p.w p.z := rfl
@[simp] theorem State.put_read8 (a : Word) : (s.put p).read8 a = s.read8 a := rfl
@[simp] theorem State.put_reg (r : Reg8) : (s.put p).reg r = s.reg r := by cases r <;> rfl
@[simp] theorem State.put_pair (rr : Reg16) : (s.put p).pair rr = s.pair rr := by cases rr <;> rfl
@[simp] theorem State.put_stackPair (rr : StackReg) : (s.put p).stackPair rr = s.stackPair rr := by cases rr <;> rfl
@[simp] theorem State.put_indAddr (x : IndPtr) : (s.put p).indAddr x = s.indAddr x := by cases x <;> rfl
@[simp] theorem State.put_cond (cc : Cond) : (s.put p).cond cc = s.cond cc := by cases cc <;> rfl

/-! ### Updates keep the scratch -/

@[simp] theorem State.put_setFlags (x : Flags) : (s.put p).setFlags x = (s.setFlags x).put p := rfl
@[simp] theorem State.put_setReg (r : Reg8) (v : Byte) : (s.put p).setReg r v = (s.setReg r v).put p := by cases r <;> rfl
@[simp] theorem State.put_setPair (rr : Reg16) (v : Word) : (s.put p).setPair rr v = (s.setPair rr v).put p := by
  cases rr <;> rfl
@[simp] theorem State.put_setStackPair (rr : StackReg) (v : Word) :
    (s.put p).setStackPair rr v = (s.setStackPair rr v).put p := by cases rr <;> rfl
@[simp] theorem State.put_indAfter (x : IndPtr) : (s.put p).indAfter x = (s.indAfter x).put p := by cases x <;> rfl
@[simp] theorem State.put_applyAlu (op : AluOp) (b : Byte) : (s.put p).applyAlu op b = (s.applyAlu op b).put p := by
  cases op <;> rfl

@[simp] theorem State.put_write8 (a : Word) (v : Byte) : (s.put p).write8 a v = (s.write8 a v).put p := by
  unfold State.write8; split <;> [rfl; split <;> rfl]

@[simp] theorem State.put_quirk (tag : QuirkTag) (a : Word) : (s.put p).quirk tag a = (s.quirk tag a).put p := by
  by_cases h : armed s.platform s.cycleCount a
  · rw [State.quirk_of_armed tag h, State.quirk_of_armed (s := s.put p) tag h]; simp only [State.put]
  · rw [State.quirk_of_not_armed tag h, State.quirk_of_not_armed (s := s.put p) tag h]

@[simp] theorem State.put_pushByte (tag : QuirkTag) (v : Byte) : (s.put p).pushByte tag v = (s.pushByte tag v).put p := by
  rw [State.pushByte, State.put_quirk]
  exact State.put_write8 { s.quirk tag s.sp with sp := s.sp - 1 } p _ _

@[simp] theorem State.put_pushHi (v : Word) : (s.put p).pushHi v = (s.pushHi v).put p := State.put_pushByte s p _ _
@[simp] theorem State.put_pushLo (v : Word) : (s.put p).pushLo v = (s.pushLo v).put p := State.put_pushByte s p _ _

@[simp] theorem State.put_popNext (tag : QuirkTag) : (s.put p).popNext tag = (s.popNext tag).put p := by
  rw [State.popNext, State.put_quirk]; rfl

@[simp] theorem State.put_popValue (tag : QuirkTag) : (s.put p).popValue tag = s.popValue tag := by
  rw [State.popValue, State.put_quirk]; rfl

@[simp] theorem State.put_instructionFinished : (s.put p).instructionFinished = s.instructionFinished.put p := by
  rw [State.instructionFinished_eq, State.instructionFinished_eq]; rfl

/-! ### The latches and the state at rest -/

theorem State.put_readZ (w z : Byte) :
    (s.put (p.latch w z)).readZ = s.afterOperand.put (p.latch w (s.read8 s.pc)) := rfl

theorem State.put_readW (w z : Byte) :
    (s.put (p.latch w z)).readW = s.afterOperand.put (p.latch (s.read8 s.pc) z) := rfl

theorem State.put_popLo (w z : Byte) :
    (s.put (p.latch w z)).popLo = (s.popNext .pop1).put (p.latch w (s.popValue .pop1)) := by
  rw [State.popLo, State.put_popNext, State.put_popValue]; rfl

theorem State.put_popHi (w z : Byte) :
    (s.put (p.latch w z)).popHi = (s.popNext .pop2).put (p.latch (s.popValue .pop2) z) := by
  rw [State.popHi, State.put_popNext, State.put_popValue]; rfl

/-- At a boundary nothing of the scratch is alive but the engine's state (R133). -/
theorem State.atRest_put (h : p.engine = s.engine) : (s.put p).atRest = s.atRest := by
  rw [State.put, h]; rfl

theorem State.atRest_instructionFinished : s.instructionFinished.atRest = s.atRest.instructionFinished := by
  rw [State.instructionFinished_eq, State.instructionFinished_eq]; rfl

theorem State.cond_nextCycle (cc : Cond) : s.nextCycle.cond cc = s.cond cc := by cases cc <;> rfl

end

end Sys2Proof.Machine
end

section
/-! PROOFS. The engine's run to a boundary, machine cycle by machine cycle, when no event arrives; in WorkPending it runs the
rest of the step list (`goOn_work`). -/

namespace Sys2Proof.Machine

/-! ### Quiet machine cycles -/

theorem State.nextCycle_write8 (s : State) (a : Word) (v : Byte) : s.nextCycle.write8 a v = (s.write8 a v).nextCycle := by
  unfold State.write8; split <;> [rfl; split <;> rfl]

/-- The events due arrive alike before and after a machine cycle's ticks are counted. -/
theorem State.nextCycle_arrive (s : State) : s.nextCycle.arrive = s.arrive.nextCycle := by
  have event (u : State) (x : Input) : u.nextCycle.applyInput x = (u.applyInput x).nextCycle := by
    cases x with
    | request k => rfl
    | write a v => exact State.nextCycle_write8 u a v
  have events (l : List Input) (u : State) :
      l.foldl State.applyInput u.nextCycle = (l.foldl State.applyInput u).nextCycle := by
    induction l generalizing u with
    | nil => rfl
    | cons x l ih => rw [List.foldl_cons, event, ih, List.foldl_cons]
  unfold State.arrive
  rw [State.nextCycle_inputs]
  split
  · rfl
  · next now later _ => exact events now { s with inputs := later }

/-- No event of another collaborator comes in the next `k` machine cycles. -/
def Quiet (k : Nat) (l : List (List Input)) : Prop := ∀ e ∈ l.take k, e = []

theorem Quiet.tail {k : Nat} {l : List (List Input)} (h : Quiet (k + 1) l) : Quiet k l.tail := by
  intro e he
  cases l with
  | nil => simp at he
  | cons now later => exact h e (List.mem_cons_of_mem _ he)

/-- The state in which a quiet machine cycle acts: its ticks are counted, and an entry without events is consumed. -/
def State.nextQuiet (s : State) : State := { s.nextCycle with inputs := s.inputs.tail }

@[simp] theorem State.nextQuiet_engine (s : State) : s.nextQuiet.engine = s.engine := rfl
@[simp] theorem State.nextQuiet_cur (s : State) : s.nextQuiet.cur = s.cur := rfl
@[simp] theorem State.nextQuiet_stepIdx (s : State) : s.nextQuiet.stepIdx = s.stepIdx := rfl

theorem Quiet.arrive {k : Nat} {s : State} (h : Quiet (k + 1) s.inputs) : s.nextCycle.arrive = s.nextQuiet := by
  cases hi : s.inputs with
  | nil => rw [State.arrive_of_nil (s := s.nextCycle) hi, State.nextQuiet, hi, List.tail_nil, ← hi]; rfl
  | cons now later =>
    have hn : now = [] := h now (by simp [hi])
    simp only [State.arrive, State.nextCycle_inputs, hi, hn, State.nextQuiet]; rfl

/-! ### To the next boundary -/

/-- What becomes of a machine cycle's outcome when `k` more may follow on the way to the next boundary. -/
def goOn (k : Nat) : Result → Result
  | .next t => if t.atBoundary then .next t else runToBoundary k t
  | .fault f => .fault f
  | .refused r => .refused r

theorem runToBoundary_succ (k : Nat) (s : State) : runToBoundary (k + 1) s = goOn k (machineCycle s.nextCycle) := by
  rw [runToBoundary]; cases machineCycle s.nextCycle <;> rfl

theorem goOn_of_boundary {t : State} (h : t.atBoundary = true) (k : Nat) : goOn k (.next t) = .next t := if_pos h

theorem goOn_of_not_boundary {t : State} (h : t.atBoundary = false) (k : Nat) : goOn k (.next t) = runToBoundary k t := by
  simp [goOn, h]

/-- Off a boundary a quiet machine cycle is the action of the engine's state. -/
theorem goOn_of_quiet {k j : Nat} {t : State} (hb : t.atBoundary = false) (hq : Quiet (j + 1) t.inputs) :
    goOn (k + 1) (.next t) = goOn k (stateAction t.nextQuiet) := by
  have hcheck : t.nextQuiet.interruptCheck = t.nextQuiet := by
    have hb' : t.nextQuiet.atBoundary = false := hb
    simp [State.interruptCheck, hb']
  rw [goOn_of_not_boundary hb, runToBoundary_succ, machineCycle, hq.arrive, hcheck]

/-! ### The step list -/

/-- The step index moves on (R128). -/
def State.stepped (s : State) : State := { s with stepIdx := s.stepIdx + 1 }

/-- The instruction is complete and the engine fetches again (R131). -/
def State.endInstruction (s : State) : State := { s.instructionFinished with engine := .fetch }

/-- The rest of a step list, one step a quiet machine cycle, to the end of the instruction (R128, R129, R131). -/
def runSteps : List MicroStep → State → Result
  | [], s => .next s.endInstruction
  | m :: ms, s =>
    match m s.nextQuiet with
    | .go t => runSteps ms t.stepped
    | .abort t => .next t.stepped.endInstruction
    | .fault f => .fault f

theorem runSteps_engine {ms : List MicroStep} {s t : State} (h : runSteps ms s = .next t) : t.engine = .fetch := by
  induction ms generalizing s with
  | nil => cases h; rfl
  | cons m ms ih =>
    rw [runSteps] at h
    split at h
    · exact ih h
    · cases h; rfl
    · cases h

section
variable {s t : State} {m : MicroStep} (hm : (OpRef.descriptor s.cur).steps[s.stepIdx]? = some m) (hi : t.stepIdx = s.stepIdx)
include hm hi

theorem workCycle_of_abort (h : m s = .abort t) : workCycle s = .next t.stepped.endInstruction := by
  simp only [workCycle, hm, h, State.stepped, hi]; rfl

theorem workCycle_of_go (h : m s = .go t) :
    workCycle s
      = .next (if s.stepIdx + 1 = (OpRef.descriptor s.cur).steps.length then t.stepped.endInstruction else t.stepped) := by
  simp only [workCycle, hm, h, State.stepped, hi]
  split <;> rfl
end

/-- In WorkPending the engine runs the rest of the current row's step list. -/
theorem goOn_work (ms : List MicroStep) {k : Nat} {s : State} (hne : ms ≠ []) (hk : ms.length ≤ k)
    (he : s.engine = .workPending) (hms : (OpRef.descriptor s.cur).steps.drop s.stepIdx = ms)
    (hf : 4 < formCycles s.cur.row.form) (hq : Quiet k s.inputs) :
    goOn k (.next s) = runSteps ms s := by
  induction ms generalizing k s with
  | nil => exact absurd rfl hne
  | cons m ms ih =>
    rw [List.length_cons] at hk
    obtain ⟨k, rfl⟩ : ∃ j, k = j + 1 := ⟨k - 1, by omega⟩
    have hm : (OpRef.descriptor s.cur).steps[s.stepIdx]? = some m := by
      rw [← List.head?_drop, hms]; rfl
    have hlen : s.stepIdx + (ms.length + 1) = (OpRef.descriptor s.cur).steps.length := by
      have := congrArg List.length hms
      rw [List.length_drop, List.length_cons] at this
      omega
    obtain ⟨t, ht, hfr⟩ := microStep_frame hf (List.mem_of_getElem? hm) s.nextQuiet
    have hi : t.stepIdx = s.nextQuiet.stepIdx := hfr.stepIdx
    have hb : s.atBoundary = false := by rw [State.atBoundary, he]; rfl
    have hact : stateAction s.nextQuiet = workCycle s.nextQuiet := by
      simp only [stateAction, State.nextQuiet_engine, he]
    rw [goOn_of_quiet hb hq, hact, runSteps]
    rcases ht with ht | ht
    · rw [workCycle_of_go (s := s.nextQuiet) hm hi ht, ht, State.nextQuiet_cur, State.nextQuiet_stepIdx]
      cases ms with
      | nil => rw [List.length_nil] at hlen; rw [if_pos hlen, goOn_of_boundary rfl]; rfl
      | cons m' ms =>
        have hrest : (OpRef.descriptor t.stepped.cur).steps.drop t.stepped.stepIdx = m' :: ms := by
          show (OpRef.descriptor t.cur).steps.drop (t.stepIdx + 1) = m' :: ms
          rw [hi, hfr.cur, State.nextQuiet_cur, State.nextQuiet_stepIdx, ← List.drop_drop, hms]; rfl
        have hrow : 4 < formCycles t.stepped.cur.row.form := by
          show 4 < formCycles t.cur.row.form
          rw [hfr.cur]; exact hf
        rw [if_neg (by rw [List.length_cons] at hlen; omega)]
        exact ih (List.cons_ne_nil _ _) (by omega) (hfr.engine.trans he) hrest hrow (hfr.inputs ▸ hq.tail)
    · rw [workCycle_of_abort (s := s.nextQuiet) hm hi ht, goOn_of_boundary rfl, ht]

end Sys2Proof.Machine
end

section
/-! PROOFS. What is fetched: the row a first byte selects, the operand its further bytes make up, and the operation a whole
instruction runs (R92, R93, R106). -/

namespace Sys2Proof

open Machine

/-! ### Rows and operands -/

/-- An operation with the operand that two bytes of the instruction stream make up (R92, R93). -/
def Form.withOperands (b1 b2 : Byte) : Form → Form
  | .ldRegImm r _ => .ldRegImm r b1
  | .ldHlImm _ => .ldHlImm b1
  | .ldhAImm _ => .ldhAImm b1
  | .ldhImmA _ => .ldhImmA b1
  | .ldHlSpE _ => .ldHlSpE b1
  | .aluImm op _ => .aluImm op b1
  | .addSpE _ => .addSpE b1
  | .jr _ => .jr b1
  | .jrCond cc _ => .jrCond cc b1
  | .ldAAbs _ => .ldAAbs (joinBytes b2 b1)
  | .ldAbsA _ => .ldAbsA (joinBytes b2 b1)
  | .ldPairImm rr _ => .ldPairImm rr (joinBytes b2 b1)
  | .ldAbsSp _ => .ldAbsSp (joinBytes b2 b1)
  | .jp _ => .jp (joinBytes b2 b1)
  | .jpCond cc _ => .jpCond cc (joinBytes b2 b1)
  | .call _ => .call (joinBytes b2 b1)
  | .callCond cc _ => .callCond cc (joinBytes b2 b1)
  | f => f

/-- How many operand bytes the steps of an operation read; the second opcode byte of an extended row is none. -/
def Form.operandCount (f : Form) : Nat := if f.format = .cbOp then 0 else f.format.bytesAfterFirst

/-- The clock ticks of the opcode bytes (R125, R126). -/
def Form.opcodeTicks (f : Form) : Nat := if f.format = .cbOp then 8 else 4

/-- The operation with the operand that lies at PC. -/
def Form.fetched (f : Form) (s : State) : Form :=
  f.withOperands ((operandBytes f.operandCount s).getD 0 0) ((operandBytes f.operandCount s).getD 1 0)

/-- Reading a table and then a row of the table commutes with a function on the entries. -/
theorem getD_getD_map {α β : Type} (g : α → β) (rows : List (List α)) (j k : Nat) (d : α) :
    g ((rows.getD j []).getD k d) = ((rows.map (List.map g)).getD j []).getD k (g d) := by
  rw [← List.map_nil (f := g), List.getD_map, List.getD_map]

/-- The operand bytes give a row its operand and nothing else (R45, R106). -/
theorem baseInstr_form (op b1 b2 : Byte) : (baseInstr op b1 b2).form = (baseInstr op 0 0).form.withOperands b1 b2 := by
  have rows : (baseRows b1 b2).map (List.map Instr.form)
      = (baseRows 0 0).map (List.map fun i => i.form.withOperands b1 b2) := rfl
  rw [baseInstr, getD_getD_map Instr.form, rows, baseInstr, getD_getD_map fun i => Form.withOperands b1 b2 (Instr.form i)]
  rfl

theorem extInstr_format : ∀ b : Byte, (extInstr b).form.format = .cbOp := by decide

theorem baseInstr_format : ∀ op : Byte, (baseInstr op 0 0).form.format ≠ .cbOp := by decide

theorem baseInstr_ne_cbTable : ∀ op : Byte, op ≠ Config.cbByte → (baseInstr op 0 0).form ≠ .cbTable := by decide

theorem operandCount_of_cbOp {f : Form} (h : f.format = .cbOp) : f.operandCount = 0 := if_pos h

theorem withOperands_of_operandCount_zero {f : Form} (h : f.operandCount = 0) (b1 b2 : Byte) : f.withOperands b1 b2 = f := by
  cases f
  case ldRegImm | ldHlImm | ldhAImm | ldhImmA | ldHlSpE | aluImm | addSpE | jr | jrCond | ldAAbs | ldAbsA | ldPairImm | ldAbsSp
      | jp | jpCond | call | callCond => simp [Form.operandCount, Form.format, Format.bytesAfterFirst] at h
  all_goals rfl

theorem opcodeTicks_withOperands (f : Form) (b1 b2 : Byte) : (f.withOperands b1 b2).opcodeTicks = f.opcodeTicks := by
  cases f <;> rfl

theorem formCycles_withOperands (f : Form) (b1 b2 : Byte) : formCycles (f.withOperands b1 b2) = formCycles f := by
  cases f <;> rfl

/-! ### Decoding the bytes at PC -/

theorem bytesAfter_le (op : Byte) : bytesAfter op ≤ 2 := by
  unfold bytesAfter
  split
  · decide
  · cases (baseInstr op 0 0).form.format <;> decide

theorem decode_base {op : Byte} {bs : List Byte} (h : op ≠ Config.cbByte) (hl : bs.length = bytesAfter op) :
    decode (op :: bs) = .ok (baseInstr op (bs.getD 0 0) (bs.getD 1 0), []) := by
  have hle := bytesAfter_le op
  match bs with
  | [] | [_] | [_, _] => rw [List.length] at hl; simp [decode, h, ← hl, instrOfBytes]
  | _ :: _ :: _ :: _ => simp only [List.length_cons] at hl; omega

theorem decode_ext (b : Byte) : decode [Config.cbByte, b] = .ok (extInstr b, []) := rfl

namespace Machine

/-- What an operation answers that has its operand at PC, and completes (R131). -/
def fetchedResult (f : Form) (s : State) : Result := finish (execForm (f.fetched s) (afterOperands f.operandCount s))

theorem fetchedResult_of_operandCount_zero {f : Form} (h : f.operandCount = 0) (s : State) :
    fetchedResult f s = finish (execForm f s) := by
  rw [fetchedResult, Form.fetched, withOperands_of_operandCount_zero h, h]; rfl

theorem runInstruction_base {s : State} (h : s.opcode ≠ Config.cbByte) :
    runInstruction s = fetchedResult (baseInstr s.opcode 0 0).form s.nextCycle.afterOpcode := by
  have hn : (baseInstr s.opcode 0 0).form.operandCount = bytesAfter s.opcode := by
    rw [Form.operandCount, if_neg (baseInstr_format _), bytesAfter, if_neg h]
  rw [runInstruction, State.instrBytes, decode_base h (operandBytes_length _ _), fetchedResult, Form.fetched, hn,
    ← baseInstr_form]
  exact congrArg finish (exec_eq_execForm _ _)

theorem runInstruction_ext {s t : State} (h : s.opcode = Config.cbByte) (ht : t = s.nextCycle.afterOpcode.nextCycle) :
    runInstruction s = fetchedResult (extInstr (t.read8 t.pc)).form t.afterOperand := by
  have h1 : bytesAfter s.opcode = 1 := by rw [h]; rfl
  subst ht
  rw [runInstruction, State.instrBytes, State.afterFetch, h1, h, operandBytes, operandBytes, decode_ext,
    fetchedResult_of_operandCount_zero (operandCount_of_cbOp (extInstr_format _))]
  exact congrArg finish (exec_eq_execForm _ _)

end Machine

end Sys2Proof
end

section
/-! PROOFS. The steps of a row of more machine cycles than its opcode bytes take end where its meaning ends
(`formSteps_reaches`): one rule for each micro-step, chained as the step lists chain them. -/

namespace Sys2Proof.Machine

/-- A micro-step goes on: from the machine `s` and the latches `w`, `z` to `t` and `w'`, `z'`. -/
def Goes (m : MicroStep) (s : State) (w z : Byte) (t : State) (w' z' : Byte) : Prop :=
  ∀ p : Scratch, m (s.put (p.latch w z)) = .go (t.put (p.latch w' z'))

/-- A micro-step ends the instruction early: from the machine `s` and the latches `w`, `z` in `t` and `w'`, `z'`. -/
def Aborts (m : MicroStep) (s : State) (w z : Byte) (t : State) (w' z' : Byte) : Prop :=
  ∀ p : Scratch, m (s.put (p.latch w z)) = .abort (t.put (p.latch w' z'))

/-- The steps, run from the machine `s` and the latches `w`, `z`, end the instruction in the machine `x`. -/
def Reaches (ms : List MicroStep) (s : State) (w z : Byte) (x : State) : Prop :=
  ∀ p : Scratch, ∃ q, runSteps ms (s.put (p.latch w z)) = .next (x.put q)

section
variable {m : MicroStep} {ms : List MicroStep} {s t x : State} {w z w' z' : Byte}

/-! ### Chaining -/

theorem State.put_endInstruction (s : State) (p : Scratch) :
    (s.put p).endInstruction = s.instructionFinished.put p.atFetch := by
  rw [State.endInstruction, State.put_instructionFinished]; rfl

theorem runSteps_of_goes (h : Goes m s.nextCycle w z t w' z') (p : Scratch) :
    runSteps (m :: ms) (s.put (p.latch w z))
      = runSteps ms (t.put (Scratch.latch w' z' { p with inputs := p.inputs.tail, stepIdx := p.stepIdx + 1 })) := by
  have hgo : m (s.put (p.latch w z)).nextQuiet = _ := h { p with inputs := p.inputs.tail }
  rw [runSteps, hgo]
  rfl

theorem Reaches.cons (h : Goes m s.nextCycle w z t w' z') (hr : Reaches ms t w' z' x) : Reaches (m :: ms) s w z x := by
  intro p
  rw [runSteps_of_goes h]
  exact hr _

theorem Reaches.last (h : Goes m s.nextCycle w z x w' z') : Reaches [m] s w z x.instructionFinished :=
  .cons h fun p => ⟨(p.latch w' z').atFetch, by rw [runSteps, State.put_endInstruction]⟩

theorem Reaches.abort (h : Aborts m s.nextCycle w z x w' z') : Reaches (m :: ms) s w z x.instructionFinished := by
  intro p
  have habort : m (s.put (p.latch w z)).nextQuiet = _ := h { p with inputs := p.inputs.tail }
  rw [runSteps, habort]
  exact ⟨_, congrArg Host.Outcome.next (State.put_endInstruction x
    (Scratch.latch w' z' { p with inputs := p.inputs.tail, stepIdx := p.stepIdx + 1 }))⟩

/-! ### The micro-steps -/

theorem Goes.idle : Goes stepIdle s w z s w z := fun _ => rfl

theorem Goes.readZ : Goes stepReadZ s w z s.afterOperand w (s.read8 s.pc) := fun _ => rfl

theorem Goes.readW : Goes stepReadW s w z s.afterOperand (s.read8 s.pc) z := fun _ => rfl

theorem Goes.readHl : Goes stepReadHl s w z s w (s.read8 s.hl) := fun _ => rfl

theorem Goes.popLo : Goes stepPopLo s w z (s.popNext .pop1) w (s.popValue .pop1) := fun p =>
  congrArg StepResult.go (State.put_popLo s p w z)

theorem Goes.popHi : Goes stepPopHi s w z (s.popNext .pop2) (s.popValue .pop2) z := fun p =>
  congrArg StepResult.go (State.put_popHi s p w z)

theorem Goes.pushHi {v : State → Word} (hv : ∀ p, v (s.put p) = v s) :
    Goes (stepPushHi v) s w z (s.pushHi (v s)) w z := fun p => by
  rw [stepPushHi, hv, State.put_pushHi]

theorem Goes.jumpWZ : Goes stepJumpWZ s w z { s with pc := joinBytes w z } w z := fun _ => rfl

theorem Goes.jumpRelative :
    Goes (fun s => .go { s with pc := s.pc + sext16 s.z }) s w z { s with pc := s.pc + sext16 z } w z := fun _ => rfl

theorem Goes.bitHl (b : BitVec 3) :
    Goes (fun s => .go (({ s with z := s.read8 s.hl } : State).setFlags (bitFlags b (s.read8 s.hl) s.flagC))) s w z
      (s.setFlags (bitFlags b (s.read8 s.hl) s.flagC)) w (s.read8 s.hl) := fun p => by
  beta_reduce
  rw [State.put_read8, State.put_hl, State.put_flagC]
  rfl

/-- A condition that holds after the state change `g` lets the instruction go on (R129). -/
theorem Goes.test {cc : Cond} {g : State → State} (h : t.cond cc = true)
    (hg : ∀ p : Scratch, g (s.put (p.latch w z)) = t.put (p.latch w' z')) :
    Goes (fun u => abortUnless cc (g u)) s w z t w' z' := fun p => by
  beta_reduce
  rw [hg, abortUnless, State.put_cond, if_pos h]

/-- A condition that fails after the state change `g` ends the instruction (R129). -/
theorem Aborts.test {cc : Cond} {g : State → State} (h : ¬ t.cond cc = true)
    (hg : ∀ p : Scratch, g (s.put (p.latch w z)) = t.put (p.latch w' z')) :
    Aborts (fun u => abortUnless cc (g u)) s w z t w' z' := fun p => by
  beta_reduce
  rw [hg, abortUnless, State.put_cond, if_neg h]

/-! ### Steps that several rows share -/

/-- Read the byte at HL, then write it back changed, with the flags of the change (R215, R217, R254). -/
theorem Reaches.modify (val : Byte → Bool → Byte × Flags) :
    Reaches [stepReadHl, fun s => .go ((s.write8 s.hl (val s.z s.flagC).1).setFlags (val s.z s.flagC).2)] s w z
      ((s.nextCycle.nextCycle.write8 s.hl (val (s.nextCycle.read8 s.hl) s.flagC).1).setFlags
        (val (s.nextCycle.read8 s.hl) s.flagC).2).instructionFinished :=
  .cons .readHl (.last (w' := w) (z' := s.nextCycle.read8 s.hl) fun _ => by rw [State.put_write8]; rfl)

/-- Store SP at the address in the latches, low byte first (R192). -/
theorem Reaches.storeSp :
    Reaches [fun s => .go (s.write8 s.wz (loByte s.sp)), fun s => .go (s.write8 (s.wz + 1) (hiByte s.sp))] s w z
      ((s.nextCycle.write8 (joinBytes w z) (loByte s.sp)).nextCycle.write8 (joinBytes w z + 1)
        (hiByte s.sp)).instructionFinished := by
  have lo : Goes (fun s => .go (s.write8 s.wz (loByte s.sp))) s.nextCycle w z
      (s.nextCycle.write8 (joinBytes w z) (loByte s.sp)) w z := fun _ => by
    beta_reduce
    rw [State.put_write8]
    rfl
  refine .cons lo (.last (w' := w) (z' := z) fun _ => ?_)
  rw [State.put_write8, State.put_sp, State.nextCycle_sp, State.write8_sp]
  rfl

/-- Push a value that neither a machine cycle nor a push changes (R190, R195). -/
theorem Reaches.push {v : State → Word} (hp : ∀ u p, v (State.put u p) = v u) (hc : ∀ u, v (State.nextCycle u) = v u)
    (hh : ∀ u x, v (State.pushHi x u) = v u) :
    Reaches [stepIdle, stepPushHi v, fun s => .go (s.pushLo (v s))] s w z
      (s.nextCycle.push16 (v s)).instructionFinished := by
  refine .cons .idle (.cons (.pushHi (hp _)) (.last (w' := w) (z' := z) fun _ => ?_))
  rw [hp, State.put_pushLo, hc, hh, hc, hc]
  rfl

/-- Push PC and jump (R286, R291). -/
theorem Reaches.callTo {v : State → Word} {a : Word} (hv : ∀ (u : State) p, v (u.put (Scratch.latch w z p)) = a) :
    Reaches [stepIdle, stepPushHi State.pc, fun s => .go { s.pushLo s.pc with pc := v s }] s w z
      (s.callTo a).instructionFinished := by
  refine .cons .idle (.cons (.pushHi fun _ => rfl) (.last (w' := w) (z' := z) fun p => ?_))
  rw [hv, State.put_pc, State.put_pushLo, State.nextCycle_pc, State.pushHi_pc]
  rfl

/-- Pop PC (R288). -/
theorem Reaches.ret : Reaches [stepPopLo, stepPopHi, stepJumpWZ] s w z
    { s.pop16Next.nextCycle with pc := s.pop16Value }.instructionFinished :=
  .cons .popLo (.cons .popHi (.last .jumpWZ))

end

/-! ### Every row -/

/-- The steps of an operation end where its meaning ends, with the operand that the steps read at PC. -/
theorem formSteps_reaches {f : Form} (hf : f.opcodeTicks < formCycles f) (s : State) (w z : Byte) :
    Reaches (formSteps f) s w z (nextForm (f.fetched s) (afterOperands f.operandCount s)).instructionFinished := by
  cases f
  case ldRegImm r _ => exact .last fun _ => by cases r <;> rfl
  case ldRegHl r => exact .last fun _ => by cases r <;> rfl
  case ldHlReg => exact .last fun _ => by rw [State.put_reg, State.put_write8]; rfl
  case ldHlImm => exact .cons .readZ (.last fun _ => by rw [State.put_write8]; rfl)
  case ldAInd q => exact .last fun _ => by cases q <;> rfl
  case ldIndA => exact .last fun _ => by rw [State.put_write8, State.put_indAddr, State.put_indAfter]; rfl
  case ldAAbs => exact .cons .readZ (.cons .readW (.last fun _ => rfl))
  case ldAbsA => exact .cons .readZ (.cons .readW (.last fun _ => by rw [State.put_write8]; rfl))
  case ldhAImm => exact .cons .readZ (.last fun _ => rfl)
  case ldhImmA => exact .cons .readZ (.last fun _ => by rw [State.put_write8]; rfl)
  case ldhAC => exact .last fun _ => rfl
  case ldhCA => exact .last fun _ => by rw [State.put_write8]; rfl
  case ldPairImm =>
    exact .cons .readZ (.last fun _ => by
      rw [State.put_readW, State.put_wz, State.put_quirk, State.put_setPair]; rfl)
  case ldAbsSp => exact .cons .readZ (.cons .readW .storeSp)
  case ldSpHl => exact .last fun _ => rfl
  case ldHlSpE => exact .cons .readZ (.last fun _ => rfl)
  case push rr =>
    exact .push (v := fun u => u.stackPair rr) (fun u p => State.put_stackPair u p rr) (fun u => by cases rr <;> rfl)
      (fun u x => by cases rr <;> simp [State.stackPair, State.af, State.readF, State.bc, State.de, State.hl])
  case pop => exact .cons .popLo (.last fun _ => by rw [State.put_popHi, State.put_setStackPair]; rfl)
  case aluHl op => exact .last fun _ => by cases op <;> rfl
  case aluImm op _ => exact .last fun _ => by cases op <;> rfl
  case incHl => exact .modify inc8
  case decHl => exact .modify dec8
  case addHlPair => exact .last fun _ => by rw [State.put_pair]; rfl
  case incPair => exact .last fun _ => by rw [State.put_pair, State.put_quirk, State.put_setPair]; rfl
  case decPair => exact .last fun _ => by rw [State.put_pair, State.put_quirk, State.put_setPair]; rfl
  case addSpE => exact .cons .readZ (.cons .idle (.last fun _ => rfl))
  case rotHl op => exact .modify (rot8 op)
  case bitHl b => exact .last (.bitHl b)
  case resHl => exact .cons .readHl (.last fun _ => by rw [State.put_write8]; rfl)
  case setHl => exact .cons .readHl (.last fun _ => by rw [State.put_write8]; rfl)
  case jp => exact .cons .readZ (.cons .readW (.last .jumpWZ))
  case jr => exact .cons .readZ (.last .jumpRelative)
  case call => exact .cons .readZ (.cons .readW (.callTo fun _ _ => rfl))
  case ret => exact .ret
  case reti => exact .cons .popLo (.cons .popHi (.last fun _ => rfl))
  case rst => exact .callTo fun _ _ => rfl
  case jpCond cc _ =>
    change Reaches _ s w z (nextForm (.jpCond cc _) s.nextCycle.afterOperand.nextCycle.afterOperand).instructionFinished
    rw [nextForm_jpCond]
    split
    next h => exact .cons .readZ (.cons (.test h fun p => State.put_readW _ p _ _) (.last .jumpWZ))
    next h => exact .cons .readZ (.abort (.test h fun p => State.put_readW _ p _ _))
  case jrCond cc _ =>
    change Reaches _ s w z (nextForm (.jrCond cc _) s.nextCycle.afterOperand).instructionFinished
    rw [nextForm_jrCond]
    split
    next h => exact .cons (.test h fun p => State.put_readZ _ p _ _) (.last .jumpRelative)
    next h => exact .abort (.test h fun p => State.put_readZ _ p _ _)
  case callCond cc _ =>
    change Reaches _ s w z (nextForm (.callCond cc _) s.nextCycle.afterOperand.nextCycle.afterOperand).instructionFinished
    rw [nextForm_callCond]
    split
    next h => exact .cons .readZ (.cons (.test h fun p => State.put_readW _ p _ _) (.callTo fun _ _ => rfl))
    next h => exact .cons .readZ (.abort (.test h fun p => State.put_readW _ p _ _))
  case retCond cc =>
    change Reaches _ s w z (nextForm (.retCond cc) s).instructionFinished
    rw [nextForm_retCond, ← State.cond_nextCycle]
    split
    next h => exact .cons (.test (g := fun u => u) h fun _ => rfl) .ret
    next h => exact .abort (.test (g := fun u => u) h fun _ => rfl)
  all_goals exact absurd hf (Nat.lt_irrefl _)

end Sys2Proof.Machine
end

section
/-! PROOFS. From a Fetch boundary the engine's machine cycles do what `runInstruction` does (`instruction_agrees`): rows that
take more machine cycles than their opcode bytes go through WorkPending, the others run their meaning as their one step. -/

namespace Sys2Proof.Machine

/-! ### Costs and step lists -/

theorem opcodeTicks_le (f : Form) : f.opcodeTicks ≤ formCycles f := by
  cases f <;> simp [Form.opcodeTicks, Form.format, formCycles]

theorem formSteps_ne_nil {f : Form} (hf : f.opcodeTicks < formCycles f) : formSteps f ≠ [] := by
  cases f
  case cbTable => exact absurd hf (Nat.lt_irrefl _)
  all_goals exact List.cons_ne_nil _ _

theorem formSteps_length_le (f : Form) : (formSteps f).length ≤ if f.format = .cbOp then 2 else 5 := by
  cases f <;> simp [formSteps, Form.format]

/-- A row that takes no more than its opcode bytes has its meaning for its one step, and no operand. -/
theorem formSteps_single {f : Form} (hf : formCycles f = f.opcodeTicks) (hc : f ≠ .cbTable) :
    formSteps f = [wholeEffect (execForm f)] ∧ f.operandCount = 0 := by
  cases f
  case cbTable => exact absurd rfl hc
  case nop | stop | halt | di | ei | unassigned | ldRegReg | aluReg | incReg | decReg | daa | cpl | scf | ccf | accRot | jpHl
      | rotReg | bitReg | resReg | setReg => exact ⟨rfl, rfl⟩
  all_goals simp [Form.opcodeTicks, Form.format, formCycles] at hf

theorem runSingleStep_wholeEffect (f : Form) (s : State) :
    runSingleStep [wholeEffect (execForm f)] s = finish (execForm f s) := by
  rw [runSingleStep, wholeEffect]
  rcases execForm_cases f s with ⟨op, rfl, h⟩ | h <;> rw [h] <;> rfl

/-! ### Meanings and the scratch -/

/-- The operation leaves the engine's state alone: it is none of HALT, STOP and the table-selecting byte. -/
def KeepsEngine (f : Form) : Prop := f ≠ .halt ∧ f ≠ .stop ∧ f ≠ .cbTable

theorem nextForm_engine {f : Form} (hf : KeepsEngine f) (s : State) : (nextForm f s).engine = s.engine := by
  obtain ⟨hhalt, hstop, hcb⟩ := hf
  cases f
  case halt => exact absurd rfl hhalt
  case stop => exact absurd rfl hstop
  case cbTable => exact absurd rfl hcb
  case ei => rw [nextForm_ei, State.scheduleEnable_true]
  case jpCond cc _ | jrCond cc _ | callCond cc _ | retCond cc => cases h : s.cond cc <;> simp [h]
  all_goals simp

/-- The meaning of a row of no more than its opcode bytes neither reads nor writes the scratch. -/
theorem nextForm_put {f : Form} (hf : formCycles f = f.opcodeTicks) (hk : KeepsEngine f) (s : State) (p : Scratch) :
    nextForm f (s.put p) = (nextForm f s).put p := by
  obtain ⟨hhalt, hstop, hcb⟩ := hk
  cases f
  case halt => exact absurd rfl hhalt
  case stop => exact absurd rfl hstop
  case cbTable => exact absurd rfl hcb
  case ei => rw [nextForm_ei, nextForm_ei, State.scheduleEnable_true, State.scheduleEnable_true]; rfl
  case nop | di | unassigned | daa | cpl | scf | ccf | jpHl => rfl
  case ldRegReg | aluReg | incReg | decReg | accRot | rotReg | bitReg | resReg | setReg => simp
  all_goals simp [Form.opcodeTicks, Form.format, formCycles] at hf

/-- HALT, STOP and the other rows of one machine cycle end alike in everything alive at a boundary. -/
theorem atRest_nextForm_put {f : Form} (hf : formCycles f = f.opcodeTicks) (hc : f ≠ .cbTable) {s : State} {p : Scratch}
    (hp : p.engine = s.engine) : (nextForm f (s.put p)).atRest = (nextForm f s).atRest := by
  by_cases hhalt : f = .halt
  · subst hhalt
    rw [nextForm_halt, nextForm_halt]
    show State.atRest (if s.ime = false ∧ s.wakePending = true then _ else _) = _
    split
    · exact State.atRest_put { s with haltBug := true } p hp
    · rfl
  by_cases hstop : f = .stop
  · subst hstop; rfl
  rw [nextForm_put hf ⟨hhalt, hstop, hc⟩, State.atRest_put]
  rw [nextForm_engine ⟨hhalt, hstop, hc⟩, hp]

theorem nextForm_boundary {f : Form} (hc : f ≠ .cbTable) {s : State} (hs : s.engine = .fetch) :
    (nextForm f s).atBoundary = true := by
  by_cases hhalt : f = .halt
  · subst hhalt
    rw [nextForm_halt]
    split
    · rw [State.atBoundary, hs]; rfl
    · rfl
  by_cases hstop : f = .stop
  · subst hstop; rfl
  rw [State.atBoundary, nextForm_engine ⟨hhalt, hstop, hc⟩, hs]; rfl

/-- A row of more machine cycles than its opcode bytes answers a next state and leaves the engine's state alone. -/
theorem execForm_of_work {f : Form} (hf : f.opcodeTicks < formCycles f) (s : State) :
    execForm f s = .next (nextForm f s) ∧ (nextForm f s).engine = s.engine := by
  have ne (g : Form) (hg : formCycles g = g.opcodeTicks) : f ≠ g := by
    rintro rfl; omega
  refine ⟨?_, nextForm_engine ⟨ne .halt rfl, ne .stop rfl, ne .cbTable rfl⟩ s⟩
  rcases execForm_cases f s with ⟨op, ho, -⟩ | h
  · exact absurd ho (ne (.unassigned op) rfl)
  · exact h

/-! ### The two ways an instruction runs -/

section
variable {f : Form} {u : State} {p : Scratch} {k : Nat}

/-- Through WorkPending: the step list ends where the meaning ends. -/
theorem work_agrees {r : OpRef} (hr : r.row.form = f) (hf : f.opcodeTicks < formCycles f) (hk : (formSteps f).length ≤ k)
    (hq : Quiet k p.inputs) (hu : u.engine = .fetch) : Agree (fetchedResult f u) (goOn k (.next (u.put (p.work r)))) := by
  have hlt : 4 < formCycles f := by
    refine Nat.lt_of_le_of_lt ?_ hf
    unfold Form.opcodeTicks; split <;> omega
  have hrun : goOn k (.next (u.put (p.work r))) = runSteps (formSteps f) (u.put (p.work r)) := by
    subst hr
    exact goOn_work _ (formSteps_ne_nil hf) hk rfl rfl hlt hq
  obtain ⟨q, ht⟩ := formSteps_reaches hf u p.w p.z (p.work r)
  obtain ⟨hx, hxe⟩ := execForm_of_work (f := f.fetched u)
    (by rw [Form.fetched, opcodeTicks_withOperands, formCycles_withOperands]; exact hf) (afterOperands f.operandCount u)
  have hrun' : goOn k (.next (u.put (p.work r))) = .next (State.put _ q) := hrun.trans ht
  rw [fetchedResult, hx, hrun']
  refine (State.atRest_put _ q ?_).symm
  rw [State.instructionFinished_engine, hxe, afterOperands_eq]
  exact (runSteps_engine ht).trans hu.symm

/-- As one step in the cycle of the opcode fetch: the step is the meaning. -/
theorem single_agrees (hf : formCycles f = f.opcodeTicks) (hc : f ≠ .cbTable) (hu : u.engine = .fetch)
    (hp : p.engine = .fetch) : Agree (fetchedResult f u) (goOn k (runSingleStep (formSteps f) (u.put p))) := by
  obtain ⟨hs, h0⟩ := formSteps_single hf hc
  rw [fetchedResult_of_operandCount_zero h0, hs, runSingleStep_wholeEffect]
  rcases execForm_cases f u with ⟨op, rfl, h⟩ | h
  · exact rfl
  · rcases execForm_cases f (u.put p) with ⟨op, rfl, h'⟩ | h'
    · cases h
    rw [h, h', finish, finish, goOn_of_boundary]
    · show State.atRest _ = State.atRest _
      rw [State.atRest_instructionFinished, State.atRest_instructionFinished, atRest_nextForm_put hf hc (hp.trans hu.symm)]
    · rw [State.atBoundary, State.instructionFinished_engine]
      exact nextForm_boundary hc hp
end

/-! ### The FetchExtendedPrefix cycle -/

section
variable {s t : State} {p : Scratch} {r : OpRef}

theorem extCycle_of_single (hr : r = { extended := true, op := s.read8 s.pc }) (hc : (OpRef.descriptor r).cycles = 8)
    (hrun : runSingleStep (OpRef.descriptor r).steps (s.afterOperand.put (p.select r)) = .next (t.put (p.select r))) :
    extCycle (s.put p) = .next (t.put (p.select r).atFetch) := by
  have hrun' : runSingleStep (OpRef.descriptor r).steps { s.put p with pc := s.pc + 1, cur := r } = _ := hrun
  subst hr
  simp only [extCycle, State.put_read8, State.put_pc, if_pos hc, hrun']
  rfl

theorem extCycle_of_work (hr : r = { extended := true, op := s.read8 s.pc }) (hc : (OpRef.descriptor r).cycles ≠ 8) :
    extCycle (s.put p) = .next (s.afterOperand.put (p.work r)) := by
  subst hr
  exact if_neg hc

theorem extCycle_agrees (hq : Quiet 4 p.inputs) (hs : s.engine = .fetch) :
    Agree (fetchedResult (extInstr (s.read8 s.pc)).form s.afterOperand) (goOn 4 (extCycle (s.put p))) := by
  generalize hr : ({ extended := true, op := s.read8 s.pc } : OpRef) = r
  generalize hf : (extInstr (s.read8 s.pc)).form = f
  have hrow : r.row.form = f := by rw [← hr, ← hf]; rfl
  have hcb : f.format = .cbOp := hf ▸ extInstr_format _
  have hticks : f.opcodeTicks = 8 := if_pos hcb
  have ne (g : Form) (hg : g.format ≠ .cbOp) : f ≠ g := by rintro rfl; exact hg hcb
  by_cases h8 : formCycles f = 8
  · have hk : KeepsEngine f := ⟨ne .halt (by decide), ne .stop (by decide), ne .cbTable (by decide)⟩
    obtain ⟨hsteps, h0⟩ := formSteps_single (h8.trans hticks.symm) hk.2.2
    have hnext (u : State) : execForm f u = .next (nextForm f u) := by
      rcases execForm_cases f u with ⟨op, ho, -⟩ | h
      · exact absurd ho (ne (.unassigned op) nofun)
      · exact h
    have hrun : runSingleStep (OpRef.descriptor r).steps (s.afterOperand.put (p.select r))
        = .next ((nextForm f s.afterOperand).instructionFinished.put (p.select r)) := by
      rw [show (OpRef.descriptor r).steps = formSteps f from congrArg formSteps hrow, hsteps, runSingleStep_wholeEffect,
        hnext, nextForm_put (h8.trans hticks.symm) hk, finish, State.put_instructionFinished]
    rw [extCycle_of_single hr.symm ((congrArg formCycles hrow).trans h8) hrun, goOn_of_boundary rfl,
      fetchedResult_of_operandCount_zero h0, hnext]
    refine (State.atRest_put _ (p.select r).atFetch ?_).symm
    rw [State.instructionFinished_engine, nextForm_engine hk]
    exact hs.symm
  · rw [extCycle_of_work hr.symm fun h => h8 ((congrArg formCycles hrow).symm.trans h)]
    have hle := opcodeTicks_le f
    have hlen := formSteps_length_le f
    rw [if_pos hcb] at hlen
    exact work_agrees hrow (by omega) (by omega) hq hs

/-! ### The Fetch cycle -/

theorem fetchCycle_of_single (hop : s.read8 s.pc ≠ Config.cbByte) (hr : r = { extended := false, op := s.read8 s.pc })
    (hc : (OpRef.descriptor r).cycles = 4) :
    fetchCycle s
      = runSingleStep (OpRef.descriptor r).steps (s.afterOpcode.put (s.afterOpcode.scratch.select r)) := by
  subst hr
  simp only [fetchCycle, if_neg hop, if_pos hc]
  rfl

theorem fetchCycle_of_work (hop : s.read8 s.pc ≠ Config.cbByte) (hr : r = { extended := false, op := s.read8 s.pc })
    (hc : (OpRef.descriptor r).cycles ≠ 4) :
    fetchCycle s = .next (s.afterOpcode.put (s.afterOpcode.scratch.work r)) := by
  subst hr
  simp only [fetchCycle, if_neg hop, if_neg hc]
  rfl

theorem fetchCycle_agrees (hop : s.read8 s.pc ≠ Config.cbByte) (hq : Quiet 5 s.inputs) (hs : s.engine = .fetch) :
    Agree (fetchedResult (baseInstr (s.read8 s.pc) 0 0).form s.afterOpcode) (goOn 5 (fetchCycle s)) := by
  generalize hr : ({ extended := false, op := s.read8 s.pc } : OpRef) = r
  generalize hf : (baseInstr (s.read8 s.pc) 0 0).form = f
  have hrow : r.row.form = f := by rw [← hr, ← hf]; rfl
  have hcb : f.format ≠ .cbOp := hf ▸ baseInstr_format _
  have hc : f ≠ .cbTable := hf ▸ baseInstr_ne_cbTable _ hop
  have hticks : f.opcodeTicks = 4 := if_neg hcb
  have hs' : s.afterOpcode.engine = .fetch := (State.afterOpcode_engine s).trans hs
  by_cases h4 : formCycles f = 4
  · rw [fetchCycle_of_single hop hr.symm ((congrArg formCycles hrow).trans h4),
      show (OpRef.descriptor r).steps = formSteps f from congrArg formSteps hrow]
    exact single_agrees (h4.trans hticks.symm) hc hs' hs'
  · rw [fetchCycle_of_work hop hr.symm fun h => h4 ((congrArg formCycles hrow).symm.trans h)]
    have hle := opcodeTicks_le f
    have hlen := formSteps_length_le f
    rw [if_neg hcb] at hlen
    have hq' : Quiet 5 s.afterOpcode.inputs := (State.afterOpcode_inputs s).symm ▸ hq
    exact work_agrees hrow (by omega) (by omega) hq' hs'

/-- The engine's machine cycles from a Fetch cycle on, and the whole instruction. -/
theorem instruction_agrees (hq : Quiet 5 s.inputs) (hs : s.engine = .fetch) :
    Agree (runInstruction s) (goOn 5 (fetchCycle s.nextCycle)) := by
  by_cases hop : s.opcode = Config.cbByte
  · have hq' : Quiet 5 s.nextCycle.afterOpcode.inputs := (State.afterOpcode_inputs s.nextCycle).symm ▸ hq
    have hfetch : fetchCycle s.nextCycle = .next { s.nextCycle.afterOpcode with engine := .fetchExtendedPrefix } := if_pos hop
    rw [runInstruction_ext hop rfl, hfetch,
      goOn_of_quiet (t := { s.nextCycle.afterOpcode with engine := .fetchExtendedPrefix }) rfl hq']
    exact extCycle_agrees
      (p := { s.nextCycle.afterOpcode.scratch with engine := .fetchExtendedPrefix, inputs := s.nextCycle.afterOpcode.inputs.tail })
      hq'.tail ((State.afterOpcode_engine s.nextCycle).trans hs)
  · rw [runInstruction_base hop]
    exact fetchCycle_agrees (s := s.nextCycle) hop hq hs
end

end Sys2Proof.Machine
end

section
/-! PROOFS. The dispatch, phase by phase, and the step at every boundary (R122, R345 to R350, R359 to R361). -/

namespace Sys2Proof.Machine

/-! ### The phases of a quiet dispatch -/

/-- A state with other events still to come. -/
def State.setInputs (l : List (List Input)) (s : State) : State := { s with inputs := l }

section
variable {s : State} {l : List (List Input)} {k : Nat}

theorem State.atRest_setInputs : (s.setInputs l).atRest = s.atRest := rfl

theorem State.write8_setInputs (a : Word) (v : Byte) : (s.setInputs l).write8 a v = (s.write8 a v).setInputs l := by
  unfold State.write8; split <;> [rfl; split <;> rfl]

theorem State.phaseIe_setInputs : (s.setInputs l).phaseIe = s.phaseIe.setInputs l := by
  by_cases h : s.pe = 0
  · rw [State.phaseIe_of_none h, State.phaseIe_of_none (s := s.setInputs l) h]; rfl
  · rw [State.phaseIe_of_pending h, State.phaseIe_of_pending (s := s.setInputs l) h]; rfl

theorem State.phasePush1_setInputs : (s.setInputs l).phasePush1 = s.phasePush1.setInputs l :=
  congrArg (fun t : State => { t with engine := .dispatchPush2 })
    (State.write8_setInputs (s := { s with sp := s.sp - 1 }) _ _)

theorem State.phasePush2_setInputs : (s.setInputs l).phasePush2 = s.phasePush2.setInputs l :=
  congrArg (fun t : State => { t with engine := .dispatchJump })
    (State.write8_setInputs (s := { s with sp := s.sp - 1 }) _ _)

/-- A quiet machine cycle in a phase of the dispatch. -/
theorem goOn_dispatching (he : EngineState.dispatching s.engine = true) (hq : Quiet (k + 1) l) :
    goOn (k + 1) (.next (s.setInputs l)) = goOn k (stateAction (s.nextCycle.setInputs l.tail)) := by
  refine goOn_of_quiet (t := s.setInputs l) ?_ hq
  show EngineState.boundary s.engine = false
  cases h : s.engine
  case fetch | halted | stopped => rw [h] at he; cases he
  all_goals rfl

theorem goOn_jump (he : s.engine = .dispatchJump) (hq : Quiet (k + 1) l) :
    goOn (k + 1) (.next (s.setInputs l)) = .next (s.nextCycle.phaseJump.setInputs l.tail) := by
  rw [goOn_dispatching (by rw [he]; rfl) hq, stateAction, show (s.nextCycle.setInputs l.tail).engine = .dispatchJump from he]
  exact goOn_of_boundary rfl k

theorem goOn_push2 (he : s.engine = .dispatchPush2) (hq : Quiet (k + 2) l) :
    goOn (k + 2) (.next (s.setInputs l)) = .next (s.nextCycle.phasePush2.nextCycle.phaseJump.setInputs l.tail.tail) := by
  rw [goOn_dispatching (by rw [he]; rfl) hq, stateAction, show (s.nextCycle.setInputs l.tail).engine = .dispatchPush2 from he]
  exact (congrArg (fun t => goOn (k + 1) (.next t)) State.phasePush2_setInputs).trans (goOn_jump rfl hq.tail)

theorem goOn_push1 (he : s.engine = .dispatchPush1) (hq : Quiet (k + 3) l) :
    goOn (k + 3) (.next (s.setInputs l))
      = .next (s.nextCycle.phasePush1.nextCycle.phasePush2.nextCycle.phaseJump.setInputs l.tail.tail.tail) := by
  rw [goOn_dispatching (by rw [he]; rfl) hq, stateAction, show (s.nextCycle.setInputs l.tail).engine = .dispatchPush1 from he]
  exact (congrArg (fun t => goOn (k + 2) (.next t)) State.phasePush1_setInputs).trans (goOn_push2 rfl hq.tail)
end

section
variable {u : State} (hq : Quiet 5 u.inputs)
include hq

/-- After the cycle of Dispatch_IF the other four phases follow (R350). -/
theorem goOn_dispatch (hp : u.pe ≠ 0) :
    ∃ l, goOn 5 (.next u.nextCycle.phaseIf) = .next (u.takeInterrupt.setInputs l) := by
  have he : u.nextCycle.phaseIf.nextCycle.phaseIe.engine = .dispatchPush1 := by
    rw [State.phaseIe_of_pending (s := u.nextCycle.phaseIf.nextCycle) hp]
  have hie : stateAction u.nextCycle.phaseIf.nextQuiet
      = .next (u.nextCycle.phaseIf.nextCycle.phaseIe.setInputs u.inputs.tail) :=
    congrArg Host.Outcome.next (State.phaseIe_setInputs (s := u.nextCycle.phaseIf.nextCycle))
  rw [goOn_of_quiet (t := u.nextCycle.phaseIf) rfl hq, hie, goOn_push1 he hq.tail]
  exact ⟨_, rfl⟩

/-! ### The step at a boundary -/

theorem dispatch_agrees (hb : u.atBoundary = true) (hd : u.deliverable = true) :
    Agree (boundaryStep u) (goOn 5 (stateAction u.nextCycle.interruptCheck)) := by
  have hp : u.pe ≠ 0 := fun h => by simp [State.deliverable, h] at hd
  have hact : stateAction u.nextCycle.interruptCheck = .next u.nextCycle.phaseIf := by
    rw [State.interruptCheck, show u.nextCycle.atBoundary = true from hb, show u.nextCycle.deliverable = true from hd]; rfl
  obtain ⟨l, hl⟩ := goOn_dispatch hq hp
  rw [boundaryStep_of_deliverable hd, hact, hl]
  exact State.atRest_setInputs.symm

/-- The events due having arrived, a boundary's step is what the engine does up to the next boundary. -/
theorem boundary_agrees (hb : u.atBoundary = true) :
    Agree (boundaryStep u) (goOn 5 (stateAction u.nextCycle.interruptCheck)) := by
  by_cases hd : u.deliverable = true
  · exact dispatch_agrees hq hb hd
  rw [Bool.not_eq_true] at hd
  have hcheck : u.nextCycle.interruptCheck = u.nextCycle := by
    rw [State.interruptCheck, show u.nextCycle.deliverable = false from hd, Bool.and_false]; rfl
  have hidle : goOn 5 (.next u.nextCycle) = .next u.nextCycle := goOn_of_boundary (t := u.nextCycle) hb 5
  rw [hcheck, stateAction, State.nextCycle_engine]
  cases he : u.engine
  case fetch =>
    rw [boundaryStep_of_fetch he hd]
    exact instruction_agrees hq he
  case halted =>
    show Agree _ (goOn 5 (if u.wakePending = true then fetchCycle { u.nextCycle with engine := .fetch } else .next u.nextCycle))
    by_cases hw : u.wakePending = true
    · rw [boundaryStep_of_wake he hd hw, if_pos hw]
      exact instruction_agrees (s := { u with engine := .fetch }) hq rfl
    · rw [if_neg hw, hidle]
      rw [Bool.not_eq_true] at hw
      rw [boundaryStep_of_halted_idle he hd hw]
      exact rfl
  case stopped =>
    rw [boundaryStep_of_stopped_idle he hd]
    show Agree _ (goOn 5 (.next u.nextCycle))
    rw [hidle]
    exact rfl
  all_goals rw [State.atBoundary, he] at hb; cases hb
end

/-- Settles O23: the first machine cycle takes the events due as the step does, and from there the two agree, dispatch,
instruction or idle cycle (`boundary_agrees`). -/
theorem stepAgreesWithTheEngine : Obligations.StepAgreesWithTheEngine := by
  intro s hb hq
  rw [step_of_boundary hb, runToBoundary_succ, machineCycle, State.nextCycle_arrive]
  refine boundary_agrees ?_ ?_
  · rw [State.arrive_inputs]; exact hq
  · rw [State.atBoundary, State.arrive_engine]; exact hb

end Sys2Proof.Machine
end

section
/-! PROOFS. Registers, flags and views (R20 to R25). -/

namespace Sys2Proof.Machine

/-- F as it is read has a zero low nibble (R21). -/
theorem State.readF_low (s : State) : s.readF.extractLsb' 0 4 = 0 := and_F0_low s.f

theorem loByte_and (v w : Word) : loByte (v &&& w) = loByte v &&& loByte w := BitVec.extractLsb'_and

theorem hiByte_and (v w : Word) : hiByte (v &&& w) = hiByte v &&& hiByte w := BitVec.extractLsb'_and

/-- Settles O6: the bits of F as it is read, and the halves of AF. -/
theorem flagsAreBitsOfF : Obligations.FlagsAreBitsOfF := fun s =>
  ⟨(s.readF_bit 7).symm, (s.readF_bit 6).symm, (s.readF_bit 5).symm, (s.readF_bit 4).symm,
    loByte_joinBytes s.a s.readF, hiByte_joinBytes s.a s.readF⟩

/-- AF reads back without its low nibble (R22). -/
theorem State.af_setAf (s : State) (v : Word) : (s.setAf v).af = v &&& 0xFFF0 := by
  have hhi : hiByte (v &&& 0xFFF0) = hiByte v := (hiByte_and v 0xFFF0).trans BitVec.and_allOnes
  have hlo : loByte (v &&& 0xFFF0) = loByte v &&& 0xF0 := loByte_and v 0xFFF0
  rw [← joinBytes_hiByte_loByte (v &&& 0xFFF0), hhi, hlo]
  exact congrArg (joinBytes (hiByte v)) (and_F0_and_F0 (loByte v))

theorem State.setBc_bc (s : State) : s.setBc s.bc = s := by simp [State.setBc, State.bc]
theorem State.setDe_de (s : State) : s.setDe s.de = s := by simp [State.setDe, State.de]
theorem State.setHl_hl (s : State) : s.setHl s.hl = s := by simp [State.setHl, State.hl]

/-- Settles O8: each write as a whole-state equation, and each view as the pair of its halves. -/
theorem registersAndViews : Obligations.RegistersAndViews := by
  refine ⟨fun s v r r' => ⟨s.readF_writeF v, s.readF_low, rfl, s.reg_setReg r r' v, ?_, s.setReg_f r v, s.setReg_sp r v,
    s.setReg_pc r v, s.setReg_mem r v, s.setReg_reg r⟩, fun s v => ?_⟩
  · cases r <;> rfl
  · exact ⟨⟨s.bc_setBc v, rfl, rfl⟩, ⟨s.de_setDe v, rfl, rfl⟩, ⟨s.hl_setHl v, rfl, rfl⟩,
      ⟨s.af_setAf v, rfl, and_F0_and_F0 _⟩, rfl, rfl, rfl, rfl, rfl, rfl, rfl, rfl, s.setBc_bc, s.setDe_de, s.setHl_hl⟩

end Sys2Proof.Machine
end

section
/-! PROOFS. No operation changes a general register that it does not list as written (R20, R23). -/

namespace Sys2Proof.Machine

section
variable (s : State) (r : Reg8)

@[simp] theorem State.reg_nextCycle : s.nextCycle.reg r = s.reg r := by cases r <;> rfl
@[simp] theorem State.reg_setFlags (x : Flags) : (s.setFlags x).reg r = s.reg r := by cases r <;> rfl
@[simp] theorem State.reg_write8 (a : Word) (v : Byte) : (s.write8 a v).reg r = s.reg r := by cases r <;> simp [State.reg]
@[simp] theorem State.reg_quirk (tag : QuirkTag) (a : Word) : (s.quirk tag a).reg r = s.reg r := by cases r <;> simp [State.reg]
@[simp] theorem State.reg_push16 (v : Word) : (s.push16 v).reg r = s.reg r := by cases r <;> simp [State.reg]
@[simp] theorem State.reg_pop16Next : s.pop16Next.reg r = s.reg r := by cases r <;> simp [State.reg]
@[simp] theorem State.reg_callTo (a : Word) : (s.callTo a).reg r = s.reg r := by cases r <;> simp [State.reg]

end

section
variable {r : Reg8}

/-- A write of another register (R23). -/
theorem State.reg_setReg_of_not_mem {r' : Reg8} (h : r ∉ [r']) (s : State) (v : Byte) : (s.setReg r' v).reg r = s.reg r := by
  rw [State.reg_setReg, if_neg (List.mem_singleton.not.1 h)]

/-- A write of two other registers: a pair is written half by half (R22, R23). -/
theorem State.reg_setReg_setReg {x y : Reg8} (h : r ∉ [x, y]) (s : State) (v w : Byte) :
    ((s.setReg x v).setReg y w).reg r = s.reg r := by
  rw [List.mem_cons, not_or] at h
  rw [State.reg_setReg_of_not_mem h.2, State.reg_setReg, if_neg h.1]

theorem State.reg_setPair {rr : Reg16} (h : r ∉ pairRegs rr) (s : State) (v : Word) : (s.setPair rr v).reg r = s.reg r := by
  cases rr
  case sp => rfl
  case bc | de | hl => exact State.reg_setReg_setReg h s (hiByte v) (loByte v)

theorem State.reg_setStackPair {rr : StackReg} (h : r ∉ stackPairRegs rr) (s : State) (v : Word) :
    (s.setStackPair rr v).reg r = s.reg r := by
  cases rr
  case af => exact State.reg_setReg_of_not_mem h s (hiByte v)
  case bc | de | hl => exact State.reg_setReg_setReg h s (hiByte v) (loByte v)

theorem State.reg_indAfter {p : IndPtr} (h : r ∉ indRegs p) (s : State) : (s.indAfter p).reg r = s.reg r := by
  cases p
  case bc | de => rfl
  case hlInc | hlDec => exact State.reg_setPair (rr := .hl) h s _

theorem State.reg_applyAlu {op : AluOp} (h : r ∉ if op = .cp then [] else [.a]) (s : State) (b : Byte) :
    (s.applyAlu op b).reg r = s.reg r := by
  cases op
  case cp => exact s.reg_setFlags r _
  all_goals exact ((s.setReg .a _).reg_setFlags r _).trans (State.reg_setReg_of_not_mem h s _)

/-- A register that an operation does not list as written is left alone (the register table under R23). -/
theorem nextForm_reg {f : Form} (h : r ∉ writtenRegs f) (s : State) : (nextForm f s).reg r = s.reg r := by
  cases f
  case nop | stop | di | cbTable | unassigned | ldSpHl | scf | ccf | addSpE | jp | jpHl | jr => rfl
  case halt => rw [nextForm_halt]; split <;> rfl
  case ei => rw [nextForm_ei, State.scheduleEnable_true]; rfl
  case ldRegHl | ldAAbs | ldhAImm | ldhAC => exact State.reg_setReg_of_not_mem h s.nextCycle _
  case ldRegReg | ldRegImm | incReg | decReg | daa | cpl | accRot | rotReg | resReg | setReg =>
    exact State.reg_setReg_of_not_mem h s _
  case ldAInd p =>
    obtain ⟨ha, hp⟩ : r ∉ [Reg8.a] ∧ r ∉ indRegs p := by simpa [writtenRegs] using h
    exact (State.reg_indAfter hp _).trans (State.reg_setReg_of_not_mem ha s _)
  case ldIndA => exact (State.reg_indAfter h _).trans (by simp)
  case ldPairImm | incPair | decPair => exact (State.reg_setPair h _ _).trans (by simp)
  case ldHlSpE | addHlPair => exact State.reg_setPair (rr := .hl) h s _
  case pop => exact (State.reg_setStackPair h _ _).trans (by simp)
  case aluHl => exact State.reg_applyAlu h s.nextCycle _
  case aluReg | aluImm => exact State.reg_applyAlu h s _
  case jpCond => rw [nextForm_jpCond]; split <;> rfl
  case jrCond => rw [nextForm_jrCond]; split <;> rfl
  case callCond => rw [nextForm_callCond]; split <;> simp
  case retCond => rw [nextForm_retCond]; split <;> [exact s.nextCycle.reg_pop16Next r; rfl]
  case ret | reti => exact s.reg_pop16Next r
  all_goals simp

end

/-- Settles O57: a meaning that completes answers the next state of its operation. -/
theorem frameOfRegisters : Obligations.FrameOfRegisters := by
  intro i s t r h hr
  rw [exec_next h]
  exact nextForm_reg hr s

end Sys2Proof.Machine
end

section
/-! PROOFS. Flags: each goes the way the summary marks it, and setting one leaves the others (R25, R26). -/

namespace Sys2Proof.Machine

/-- All four flags are kept. -/
def FlagPolicy.keepsAll : FlagPolicy := ⟨.kept, .kept, .kept, .kept⟩

/-- Each of the four flags goes from one state to the other as its mark says. -/
def FlagPolicy.Allows (p : FlagPolicy) (s t : State) : Prop :=
  p.z.Allows s.flagZ t.flagZ ∧ p.n.Allows s.flagN t.flagN ∧ p.h.Allows s.flagH t.flagH ∧ p.c.Allows s.flagC t.flagC

section
variable {s t : State}

theorem FlagPolicy.keepsAll_allows (h : t.f = s.f) : FlagPolicy.keepsAll.Allows s t := by
  simp only [FlagPolicy.Allows, FlagPolicy.keepsAll, FlagMark.Allows, State.flagZ, State.flagN, State.flagH, State.flagC, h,
    and_self]

/-- Four flags written at once, each as its mark says (R24). -/
theorem FlagPolicy.Allows.of_pack {p : FlagPolicy} {x : Flags} (h : t.f = x.pack) (hz : p.z.Allows s.flagZ x.z)
    (hn : p.n.Allows s.flagN x.n) (hh : p.h.Allows s.flagH x.h) (hc : p.c.Allows s.flagC x.c) : p.Allows s t := by
  obtain ⟨ez, en, eh, ec, -⟩ := State.flags_of_f h
  rw [FlagPolicy.Allows, ez, en, eh, ec]
  exact ⟨hz, hn, hh, hc⟩

theorem applyAlu_allows (op : AluOp) (b : Byte) (s : State) : (aluPolicy op).Allows s (s.applyAlu op b) := by
  cases op
  case add | adc | sub | sbc | cp => exact .of_pack rfl trivial rfl trivial trivial
  case and | xor | or => exact .of_pack rfl trivial rfl rfl rfl

theorem rot8_allows {op : RotOp} {v : Byte} {c : Bool} (h : t.f = (rot8 op v c).2.pack) : (rotPolicy op).Allows s t := by
  cases op
  case swap => exact .of_pack h trivial rfl rfl rfl
  all_goals exact .of_pack h trivial rfl rfl trivial

end

/-- What an operation does to F: nothing, where the summary lists all four flags as unchanged; else each flag as its mark
says (R25, R26). -/
theorem nextForm_flags (f : Form) (s : State) :
    flagPolicy f = .keepsAll ∧ (nextForm f s).f = s.f
      ∨ flagPolicy f ≠ .keepsAll ∧ (flagPolicy f).Allows s (nextForm f s) := by
  cases f
  case aluReg op _ | aluImm op _ => exact .inr ⟨by cases op <;> nofun, applyAlu_allows op _ s⟩
  case aluHl op => exact .inr ⟨by cases op <;> nofun, applyAlu_allows op _ s.nextCycle⟩
  case rotReg op _ | rotHl op => exact .inr ⟨by cases op <;> nofun, rot8_allows (op := op) rfl⟩
  case incReg | incHl | decReg | decHl => exact .inr ⟨nofun, .of_pack rfl trivial rfl trivial rfl⟩
  case daa => exact .inr ⟨nofun, .of_pack rfl trivial rfl rfl trivial⟩
  case cpl =>
    exact .inr ⟨nofun, .of_pack rfl (State.flagZ_setFlags _ _) (State.flagN_setFlags _ _) rfl (State.flagC_setFlags _ _)⟩
  case scf | ccf =>
    refine .inr ⟨nofun, .of_pack rfl ?_ ?_ (State.flagH_setFlags _ _) ?_⟩
    · exact (State.flagZ_setFlags _ _).trans (State.flagZ_setFlags _ _)
    · exact (State.flagN_setFlags _ _).trans (State.flagN_setFlags _ _)
    · trivial
  case addHlPair | addSpE | ldHlSpE => exact .inr ⟨nofun, .of_pack rfl rfl rfl trivial trivial⟩
  case accRot => exact .inr ⟨nofun, .of_pack rfl rfl rfl rfl trivial⟩
  case bitReg | bitHl => exact .inr ⟨nofun, .of_pack rfl trivial rfl rfl rfl⟩
  case pop rr =>
    cases rr
    case af => exact .inr ⟨nofun, trivial, trivial, trivial, trivial⟩
    all_goals exact .inl ⟨rfl, s.pop16Next_f⟩
  all_goals refine .inl ⟨rfl, ?_⟩
  case halt => rw [nextForm_halt]; split <;> rfl
  case jpCond cc _ | jrCond cc _ | callCond cc _ | retCond cc => cases h : s.cond cc <;> simp [h]
  all_goals simp

/-- Settles O58: `nextForm_flags`; a policy that keeps all four flags allows what leaves F alone. -/
theorem flagSummary : Obligations.FlagSummary := by
  intro i s t h
  rw [exec_next h]
  rcases nextForm_flags i.form s with ⟨hp, hf⟩ | ⟨hp, hz, hn, hh, hc⟩
  · obtain ⟨hz, hn, hh, hc⟩ := FlagPolicy.keepsAll_allows hf
    rw [hp]
    exact ⟨hz, hn, hh, hc, fun _ => hf⟩
  · exact ⟨hz, hn, hh, hc, fun hk => absurd hk hp⟩

theorem FlagMark.Allows.eq_of_kept {m : FlagMark} {before after : Bool} (h : m.Allows before after) (hm : m = .kept) :
    after = before := by
  subst hm; exact h

/-- Settles O7: the bits of F after a write, and the summary's kept flags. -/
theorem eachFlagTouchesOnlyItsOwnBit : Obligations.EachFlagTouchesOnlyItsOwnBit := by
  constructor
  · intro s v
    refine ⟨?_, ?_, ?_, ?_, rfl, rfl, rfl, rfl⟩
    all_goals
      intro k
      simp only [State.setFlagZ, State.setFlagN, State.setFlagH, State.setFlagC, State.flags, State.readF_bit,
        State.flagZ_setFlags, State.flagN_setFlags, State.flagH_setFlags, State.flagC_setFlags]
      grind
  · intro i s t h
    obtain ⟨hz, hn, hh, hc, -⟩ := flagSummary i s t h
    exact ⟨hz.eq_of_kept, hn.eq_of_kept, hh.eq_of_kept, hc.eq_of_kept⟩

end Sys2Proof.Machine
end

section
/-! PROOFS. What an operation leaves of the control state, and of IE and IF (R28 to R36). -/

namespace Sys2Proof.Machine

/-! ### The engine's scratch -/

/-- A meaning changes nothing of the scratch but the engine's state. -/
theorem nextForm_scratch (f : Form) (s : State) :
    (nextForm f s).scratch = { s.scratch with engine := (nextForm f s).engine } := by
  cases f
  case halt => rw [nextForm_halt]; split <;> rfl
  case jpCond cc _ | jrCond cc _ | callCond cc _ | retCond cc => cases h : s.cond cc <;> simp [State.scratch, h]
  all_goals simp [State.scratch]

theorem nextForm_inputs (f : Form) (s : State) : (nextForm f s).inputs = s.inputs :=
  congrArg Scratch.inputs (nextForm_scratch f s)

/-! ### The machine's own control state -/

/-- Who writes SP, PC, IME and its slot, the marker and the divider (R28, R29, R32, R33, R36, R39). -/
structure ControlFrame (f : Form) (s t : State) : Prop where
  sp : writesSp f = false → t.sp = s.sp
  pc : writesPc f = false → t.pc = s.pc
  ime : f ≠ .di → f ≠ .reti → t.ime = s.ime
  imeSched : f ≠ .di → f ≠ .ei → f ≠ .reti → t.imeSched = s.imeSched
  haltBug : f ≠ .halt → t.haltBug = s.haltBug
  tickDiv : t.tickDiv = s.tickDiv

theorem nextForm_control (f : Form) (s : State) : ControlFrame f s (nextForm f s) := by
  cases f
  case halt => rw [nextForm_halt]; split <;> constructor <;> simp
  case ei => rw [nextForm_ei, State.scheduleEnable_true]; constructor <;> simp
  case ldPairImm rr _ | incPair rr | decPair rr => cases rr <;> constructor <;> simp [writesSp, State.setPair]
  case jpCond cc _ | jrCond cc _ | callCond cc _ | retCond cc =>
    cases h : s.cond cc <;> constructor <;> simp [writesSp, writesPc, h]
  all_goals constructor <;> simp [writesSp, writesPc]

/-! ### Stores to IE and IF -/

/-- IE and IF are as before, unless a byte was stored to their addresses (R30, R31, R356). -/
def StoreFrame (addrs : List Word) (s t : State) : Prop :=
  (Config.ieAddr ∉ addrs → t.ie = s.ie) ∧ (Config.ifAddr ∉ addrs → t.ifr = s.ifr)

theorem StoreFrame.of_eq {s t : State} (hie : t.ie = s.ie) (hifr : t.ifr = s.ifr) (addrs : List Word) : StoreFrame addrs s t :=
  ⟨fun _ => hie, fun _ => hifr⟩

theorem StoreFrame.trans {as bs : List Word} {s t u : State} (h : StoreFrame as s t) (g : StoreFrame bs t u) :
    StoreFrame (as ++ bs) s u := by
  constructor <;> intro hn <;> rw [List.mem_append, not_or] at hn
  · exact (g.1 hn.2).trans (h.1 hn.1)
  · exact (g.2 hn.2).trans (h.2 hn.1)

theorem StoreFrame.write8 (a : Word) (v : Byte) (s : State) : StoreFrame [a] s (s.write8 a v) := by
  constructor <;> intro hn <;> rw [List.mem_singleton] at hn
  · rw [State.write8_ie, if_neg (Ne.symm hn)]
  · rw [State.write8_ifr, if_neg (Ne.symm hn)]

theorem StoreFrame.pushByte (tag : QuirkTag) (v : Byte) (s : State) : StoreFrame [s.sp - 1] s (s.pushByte tag v) :=
  (StoreFrame.of_eq (t := { s.quirk tag s.sp with sp := s.sp - 1 }) (s.quirk_ie tag s.sp) (s.quirk_ifr tag s.sp) []).trans
    (.write8 _ v _)

/-- The two stores of a push (R190). -/
theorem StoreFrame.push16 (v : Word) (s : State) : StoreFrame [s.sp - 1, s.sp - 2] s (s.push16 v) := by
  have hlo := StoreFrame.pushByte .push2 (loByte v) (s.nextCycle.pushHi v).nextCycle
  rw [State.nextCycle_sp, State.pushHi_sp, State.nextCycle_sp, word_sub_one_sub_one] at hlo
  exact StoreFrame.trans (t := (s.nextCycle.pushHi v).nextCycle) (.pushByte .push1 (hiByte v) s.nextCycle) hlo

theorem StoreFrame.callTo (a : Word) (s : State) : StoreFrame [s.sp - 1, s.sp - 2] s (s.callTo a) := by
  obtain ⟨hie, hifr⟩ := StoreFrame.push16 s.pc s.nextCycle
  rw [State.callTo]
  exact ⟨hie, hifr⟩

theorem nextForm_stores (f : Form) (s : State) : StoreFrame (storedAddrs f s) s (nextForm f s) := by
  cases f
  case ldHlReg | ldHlImm | ldAbsA | ldhImmA | ldhCA => exact .write8 _ _ s.nextCycle
  case incHl | decHl | rotHl | resHl | setHl => exact .write8 _ _ s.nextCycle.nextCycle
  case ldIndA p => cases p <;> exact .write8 _ _ s.nextCycle
  case ldAbsSp a =>
    have hlo := StoreFrame.write8 a (loByte s.sp) s.nextCycle
    have hhi := StoreFrame.write8 (a + 1) (hiByte s.sp) (s.nextCycle.write8 a (loByte s.sp)).nextCycle
    exact StoreFrame.trans (t := (s.nextCycle.write8 a (loByte s.sp)).nextCycle) hlo hhi
  case push => exact .push16 _ s.nextCycle
  case call | rst => exact .callTo _ s
  case callCond cc a =>
    rw [nextForm_callCond, storedAddrs]
    split
    · exact .callTo a s
    · exact .of_eq rfl rfl _
  case halt => rw [nextForm_halt]; split <;> exact .of_eq rfl rfl _
  case jpCond cc _ | jrCond cc _ | retCond cc => refine .of_eq ?_ ?_ _ <;> cases h : s.cond cc <;> simp [h]
  all_goals exact .of_eq (by simp) (by simp) _

/-- Settles O59: `nextForm_control`, `nextForm_scratch` and `nextForm_stores`; DI, EI, RETI, HALT, STOP and the table-selecting
byte are alone in their operations. -/
theorem frameOfControlState : Obligations.FrameOfControlState := by
  intro i s t h
  rw [exec_next h]
  obtain ⟨hsp, hpc, hime, hsched, hbug, hdiv⟩ := nextForm_control i.form s
  obtain ⟨hie, hifr⟩ := nextForm_stores i.form s
  have hscratch := nextForm_scratch i.form s
  have di := mt (eq_di_of_form (i := i))
  have reti := mt (eq_reti_of_form (i := i))
  have halt := mt (eq_halt_of_form (i := i))
  exact ⟨hsp, hpc, fun h1 h2 => hime (di h1) (reti h2), fun h1 h2 h3 => hsched (di h1) (mt eq_ei_of_form h2) (reti h3),
    fun h1 h2 h3 => nextForm_engine ⟨halt h1, mt eq_stop_of_form h2, mt eq_prefixCb_of_form h3⟩ s, fun h1 => hbug (halt h1),
    congrArg Scratch.cur hscratch, congrArg Scratch.stepIdx hscratch, congrArg Scratch.w hscratch,
    congrArg Scratch.z hscratch, congrArg Scratch.irqIdx hscratch, hdiv, (nextForm_sound i.form s).platform,
    congrArg Scratch.inputs hscratch, hie, hifr⟩

end Sys2Proof.Machine
end

section
/-! PROOFS. The invariant, kept by every step: what each piece of a step keeps (`QuietFrame`), and the three kinds of state in
which the invariant speaks of the engine (R21, R78, R136, R309, R337, R340). -/

namespace Sys2Proof.Machine

/-! ### What every piece of a step keeps -/

/-- What a meaning, a micro-step and a phase keep: the sound parts of the state, and the events still to come. -/
structure QuietFrame (s t : State) : Prop extends SoundFrame s t where
  inputs : t.inputs = s.inputs

theorem QuietFrame.trans {s t u : State} (h : QuietFrame s t) (g : QuietFrame t u) : QuietFrame s u :=
  ⟨h.toSoundFrame.trans g.toSoundFrame, g.inputs.trans h.inputs⟩

theorem MicroFrame.quiet {s t : State} (h : MicroFrame s t) : QuietFrame s t := ⟨h.sound, h.inputs⟩

theorem QuietFrame.nextCycle (s : State) : QuietFrame s s.nextCycle := ⟨.nextCycle s, rfl⟩

theorem QuietFrame.engine (e : EngineState) (s : State) : QuietFrame s { s with engine := e } := ⟨⟨rfl, id, id, id⟩, rfl⟩

theorem QuietFrame.stepped (s : State) : QuietFrame s s.stepped := ⟨⟨rfl, id, id, id⟩, rfl⟩

theorem QuietFrame.instructionFinished (s : State) : QuietFrame s s.instructionFinished :=
  ⟨.instructionFinished s, s.instructionFinished_inputs⟩

theorem QuietFrame.endInstruction (s : State) : QuietFrame s s.endInstruction :=
  (QuietFrame.instructionFinished s).trans (.engine _ _)

theorem QuietFrame.nextForm (f : Form) (s : State) : QuietFrame s (nextForm f s) := ⟨nextForm_sound f s, nextForm_inputs f s⟩

theorem QuietFrame.afterFetch (s : State) : QuietFrame s s.afterFetch := by
  rw [State.afterFetch_eq]; exact ⟨⟨rfl, id, id, id⟩, rfl⟩

theorem QuietFrame.phaseIe (s : State) : QuietFrame s s.phaseIe := by
  by_cases h : s.pe = 0
  · rw [State.phaseIe_of_none h]; exact .engine _ s
  · rw [State.phaseIe_of_pending h]; exact ⟨⟨rfl, id, id, fun _ hn => absurd rfl hn⟩, rfl⟩

theorem QuietFrame.phaseIf (s : State) : QuietFrame s s.phaseIf := .engine _ s

theorem QuietFrame.phasePush1 (s : State) : QuietFrame s s.phasePush1 :=
  ((MicroFrame.sp _ s).trans (.write8 _ _ _)).quiet.trans (.engine _ _)

theorem QuietFrame.phasePush2 (s : State) : QuietFrame s s.phasePush2 :=
  ((MicroFrame.sp _ s).trans (.write8 _ _ _)).quiet.trans (.engine _ _)

theorem QuietFrame.phaseJump (s : State) : QuietFrame s s.phaseJump := ⟨⟨rfl, id, id, id⟩, rfl⟩

theorem QuietFrame.takeInterrupt (s : State) : QuietFrame s s.takeInterrupt := by
  have hIf := (QuietFrame.nextCycle s).trans (.phaseIf _)
  have hIe := (hIf.trans (.nextCycle _)).trans (.phaseIe _)
  have hPush1 := (hIe.trans (.nextCycle _)).trans (.phasePush1 _)
  have hPush2 := (hPush1.trans (.nextCycle _)).trans (.phasePush2 _)
  exact (hPush2.trans (.nextCycle _)).trans (.phaseJump _)

/-! ### The invariant from its parts -/

/-- The engine is in no phase of a dispatch and in no step list, where the invariant says nothing of it. -/
def EngineState.Free (e : EngineState) : Prop := EngineState.dispatching e = false ∧ e ≠ .workPending

theorem EngineState.free_of_boundary {e : EngineState} (h : EngineState.boundary e = true) : e.Free := by
  cases e
  case fetch | halted | stopped => exact ⟨rfl, nofun⟩
  all_goals cases h

theorem State.Inv.of_free {s t : State} (hs : s.Inv) (h : SoundFrame s t) (he : EngineState.Free t.engine) : t.Inv where
  mem_wf := h.mem_wf hs.mem_wf
  f_low := h.f_low hs.f_low
  sched_ime := h.sched_ime hs.sched_ime
  dispatch_sched hd := by rw [he.1] at hd; cases hd
  work_index hw := absurd hw he.2
  work_row hw := absurd hw he.2

/-- In a phase of the dispatch the invariant asks for an empty slot. -/
theorem State.Inv.of_dispatching {s t : State} (hs : s.Inv) (h : SoundFrame s t) (he : EngineState.dispatching t.engine = true)
    (hn : t.imeSched = .none) : t.Inv where
  mem_wf := h.mem_wf hs.mem_wf
  f_low := h.f_low hs.f_low
  sched_ime := h.sched_ime hs.sched_ime
  dispatch_sched _ := hn
  work_index hw := by rw [hw] at he; cases he
  work_row hw := by rw [hw] at he; cases he

/-- In a step list the invariant asks for a row of more than one machine cycle and an index inside the list. -/
theorem State.Inv.of_work {s t : State} (hs : s.Inv) (h : SoundFrame s t) (he : t.engine = .workPending)
    (hi : t.stepIdx < (OpRef.descriptor t.cur).steps.length)
    (hr : (OpRef.descriptor t.cur).cycles > if t.cur.extended then 8 else 4) : t.Inv where
  mem_wf := h.mem_wf hs.mem_wf
  f_low := h.f_low hs.f_low
  sched_ime := h.sched_ime hs.sched_ime
  dispatch_sched hd := by rw [he] at hd; cases hd
  work_index _ := hi
  work_row _ := hr

theorem State.Inv.nextCycle {s : State} (hs : s.Inv) : s.nextCycle.Inv :=
  ⟨hs.mem_wf, hs.f_low, hs.sched_ime, hs.dispatch_sched, hs.work_index, hs.work_row⟩

/-- The arrival of events keeps the invariant (log 2). -/
theorem State.Inv.arrive {s : State} (hs : s.Inv) : s.arrive.Inv where
  mem_wf := State.wf_arrive hs.mem_wf
  f_low := by rw [State.arrive_f]; exact hs.f_low
  sched_ime := by rw [State.arrive_imeSched, State.arrive_ime]; exact hs.sched_ime
  dispatch_sched := by rw [State.arrive_engine, State.arrive_imeSched]; exact hs.dispatch_sched
  work_index := by rw [State.arrive_engine, State.arrive_stepIdx, State.arrive_cur]; exact hs.work_index
  work_row := by rw [State.arrive_engine, State.arrive_cur]; exact hs.work_row

/-! ### A whole step from a boundary -/

theorem nextForm_free (f : Form) {s : State} (he : EngineState.Free s.engine) : EngineState.Free (nextForm f s).engine := by
  by_cases hhalt : f = .halt
  · subst hhalt
    rw [nextForm_halt]
    split
    · exact he
    · exact ⟨rfl, nofun⟩
  by_cases hstop : f = .stop
  · subst hstop; exact ⟨rfl, nofun⟩
  by_cases hcb : f = .cbTable
  · subst hcb; exact ⟨rfl, nofun⟩
  rw [nextForm_engine ⟨hhalt, hstop, hcb⟩]; exact he

theorem runInstruction_frame {s t : State} (he : EngineState.Free s.engine) (h : runInstruction s = .next t) :
    QuietFrame s t ∧ EngineState.Free t.engine := by
  unfold runInstruction at h
  split at h
  case h_2 => cases h
  next i _ _ =>
    obtain ⟨u, hu, rfl⟩ := finish_next h
    rw [exec_next hu]
    refine ⟨((QuietFrame.afterFetch s).trans (.nextForm _ _)).trans (.instructionFinished _), ?_⟩
    rw [State.instructionFinished_engine]
    refine nextForm_free _ ?_
    rw [State.afterFetch_eq]; exact he

theorem boundaryStep_frame {s t : State} (hb : s.atBoundary = true) (h : boundaryStep s = .next t) :
    QuietFrame s t ∧ EngineState.Free t.engine := by
  have he : EngineState.Free s.engine := EngineState.free_of_boundary hb
  by_cases hd : s.deliverable = true
  · rw [boundaryStep_of_deliverable hd] at h
    cases h
    exact ⟨.takeInterrupt s, rfl, EngineState.noConfusion⟩
  rw [Bool.not_eq_true] at hd
  cases hs : s.engine
  case fetch =>
    rw [boundaryStep_of_fetch hs hd] at h
    exact runInstruction_frame he h
  case halted =>
    cases hw : s.wakePending
    case false =>
      rw [boundaryStep_of_halted_idle hs hd hw] at h
      cases h
      exact ⟨.nextCycle s, he⟩
    case true =>
      rw [boundaryStep_of_wake hs hd hw] at h
      obtain ⟨hf, hfree⟩ := runInstruction_frame ⟨rfl, EngineState.noConfusion⟩ h
      exact ⟨(QuietFrame.engine .fetch s).trans hf, hfree⟩
  case stopped =>
    rw [boundaryStep_of_stopped_idle hs hd] at h
    cases h
    exact ⟨.nextCycle s, he⟩
  all_goals rw [State.atBoundary, hs] at hb; cases hb

/-! ### One machine cycle off a boundary -/

/-- The second opcode byte: the row runs as one step, or its step list begins (R126). -/
theorem extCycle_keeps {s t : State} (hs : s.Inv) (h : extCycle s = .next t) : t.Inv ∧ QuietFrame s t := by
  generalize hr : ({ extended := true, op := s.read8 s.pc } : OpRef) = r
  generalize hf : (extInstr (s.read8 s.pc)).form = f
  have hrow : r.row.form = f := by rw [← hr, ← hf]; rfl
  have hcb : f.format = .cbOp := hf ▸ extInstr_format _
  have hticks : f.opcodeTicks = 8 := if_pos hcb
  have ne (g : Form) (hg : g.format ≠ .cbOp) : f ≠ g := by rintro rfl; exact hg hcb
  have hfetch : QuietFrame s { s with pc := s.pc + 1, cur := r } := ⟨⟨rfl, id, id, id⟩, rfl⟩
  have hsteps : (OpRef.descriptor r).steps = formSteps f := congrArg formSteps hrow
  have hcycles : (OpRef.descriptor r).cycles = formCycles f := congrArg formCycles hrow
  unfold extCycle at h
  simp only [hr, hcycles] at h
  by_cases h8 : formCycles f = 8
  · have hex (u : State) : execForm f u = .next (nextForm f u) := by
      rcases execForm_cases f u with ⟨op, ho, -⟩ | hx
      · exact absurd ho (ne (.unassigned op) nofun)
      · exact hx
    rw [if_pos h8, hsteps, (formSteps_single (h8.trans hticks.symm) (ne .cbTable nofun)).1, runSingleStep_wholeEffect, hex] at h
    cases h
    have hq := hfetch.trans ((QuietFrame.nextForm f _).trans (.endInstruction _))
    exact ⟨hs.of_free hq.toSoundFrame ⟨rfl, nofun⟩, hq⟩
  · rw [if_neg h8] at h
    cases h
    have hle := opcodeTicks_le f
    have hq : QuietFrame s { s with pc := s.pc + 1, cur := r, stepIdx := 0, engine := .workPending } :=
      hfetch.trans ⟨⟨rfl, id, id, id⟩, rfl⟩
    refine ⟨hs.of_work hq.toSoundFrame rfl ?_ ?_, hq⟩
    · show 0 < (OpRef.descriptor r).steps.length
      rw [hsteps]
      exact List.length_pos_iff.2 (formSteps_ne_nil (by omega))
    · show (OpRef.descriptor r).cycles > if r.extended then 8 else 4
      rw [hcycles, ← hr, if_pos rfl]; omega

/-- One micro-step of a step list: the instruction ends, or the index moves on inside the list (R128, R129, R131). -/
theorem workCycle_keeps {s t : State} (hs : s.Inv) (he : s.engine = .workPending) (h : workCycle s = .next t) :
    t.Inv ∧ QuietFrame s t := by
  have hi := hs.work_index he
  have hr := hs.work_row he
  have hlt : 4 < formCycles s.cur.row.form := by
    refine Nat.lt_of_le_of_lt ?_ hr
    split <;> omega
  obtain ⟨u, hu, hm⟩ := microStep_frame hlt (List.getElem_mem hi) s
  have hstepped : QuietFrame s u.stepped := hm.quiet.trans (.stepped _)
  have hend : QuietFrame s u.stepped.endInstruction := hstepped.trans (.endInstruction _)
  have hget := List.getElem?_eq_getElem hi
  have hdone : u.stepped.endInstruction.Inv := hs.of_free hend.toSoundFrame ⟨rfl, nofun⟩
  rcases hu with hgo | habort
  · rw [workCycle_of_go hget hm.stepIdx hgo] at h
    cases h
    split
    · exact ⟨hdone, hend⟩
    · next hne =>
      refine ⟨hs.of_work hstepped.toSoundFrame (hm.engine.trans he) ?_ ?_, hstepped⟩
      · show u.stepIdx + 1 < (OpRef.descriptor u.cur).steps.length
        rw [hm.stepIdx, hm.cur]; omega
      · show (OpRef.descriptor u.cur).cycles > if u.cur.extended then 8 else 4
        rw [hm.cur]; exact hr
  · rw [workCycle_of_abort hget hm.stepIdx habort] at h
    cases h
    exact ⟨hdone, hend⟩

/-- The action of the engine's state inside a dispatch or an instruction. -/
theorem stateAction_keeps {s t : State} (hs : s.Inv) (hb : s.atBoundary = false) (h : stateAction s = .next t) :
    t.Inv ∧ QuietFrame s t := by
  cases he : s.engine
  case fetch | halted | stopped => rw [State.atBoundary, he] at hb; cases hb
  case fetchExtendedPrefix => rw [stateAction, he] at h; exact extCycle_keeps hs h
  case workPending => rw [stateAction, he] at h; exact workCycle_keeps hs he h
  all_goals
    have hn : s.imeSched = .none := hs.dispatch_sched (by rw [he]; rfl)
    rw [stateAction, he] at h
    cases h
  case dispatchIf => exact ⟨hs.of_dispatching (QuietFrame.phaseIf s).toSoundFrame rfl hn, .phaseIf s⟩
  case dispatchIe =>
    refine ⟨?_, .phaseIe s⟩
    by_cases hp : s.pe = 0
    · refine hs.of_free (QuietFrame.phaseIe s).toSoundFrame ?_
      rw [State.phaseIe_of_none hp]; exact ⟨rfl, nofun⟩
    · refine hs.of_dispatching (QuietFrame.phaseIe s).toSoundFrame ?_ ?_ <;> rw [State.phaseIe_of_pending hp]; rfl
  case dispatchPush1 =>
    exact ⟨hs.of_dispatching (QuietFrame.phasePush1 s).toSoundFrame rfl ((State.write8_imeSched _ _ _).trans hn), .phasePush1 s⟩
  case dispatchPush2 =>
    exact ⟨hs.of_dispatching (QuietFrame.phasePush2 s).toSoundFrame rfl ((State.write8_imeSched _ _ _).trans hn), .phasePush2 s⟩
  case dispatchJump => exact ⟨hs.of_free (QuietFrame.phaseJump s).toSoundFrame ⟨rfl, nofun⟩, .phaseJump s⟩

/-- Off a boundary the interrupt check does nothing (R122). -/
theorem State.interruptCheck_of_not_boundary {s : State} (hb : s.atBoundary = false) : s.interruptCheck = s := by
  simp [State.interruptCheck, hb]

/-! ### Every step -/

/-- A step keeps the invariant and the platform, and takes the events due off the list. -/
theorem step_keeps {s t : State} (hs : s.Inv) (h : step s = .next t) :
    t.Inv ∧ t.platform = s.platform ∧ t.inputs = s.inputs.drop 1 := by
  cases hb : s.atBoundary
  case true =>
    rw [step_of_boundary hb] at h
    have hb' : s.arrive.atBoundary = true := by rw [State.atBoundary, State.arrive_engine]; exact hb
    obtain ⟨hq, hfree⟩ := boundaryStep_frame hb' h
    exact ⟨hs.arrive.of_free hq.toSoundFrame hfree, hq.platform.trans s.arrive_platform, hq.inputs.trans s.arrive_inputs⟩
  case false =>
    have hb' : s.nextCycle.arrive.atBoundary = false := by rw [State.atBoundary, State.arrive_engine]; exact hb
    rw [step_of_not_boundary hb, machineCycle, State.interruptCheck_of_not_boundary hb'] at h
    obtain ⟨ht, hq⟩ := stateAction_keeps hs.nextCycle.arrive hb' h
    exact ⟨ht, hq.platform.trans (State.arrive_platform _), hq.inputs.trans (State.arrive_inputs _)⟩

/-- Settles O27: `step_keeps`; and events that are requests stay so when the due ones leave the list. -/
theorem everyStepKeepsTheInvariant : Obligations.EveryStepKeepsTheInvariant := by
  intro s t hs h
  obtain ⟨ht, hp, hi⟩ := step_keeps hs h
  refine ⟨ht, hp, fun ⟨href, hreq⟩ => ⟨hp.trans href, fun now hnow => hreq now ?_⟩⟩
  rw [hi] at hnow
  exact List.mem_of_mem_drop hnow

end Sys2Proof.Machine
end

section
/-! PROOFS. The step at a Fetch boundary: the bytes at PC decode to the instruction they encode (R27, R125, R137). -/

namespace Sys2Proof.Machine

/-- Every whole instruction decodes from its own bytes, whatever follows them (R90, R106); a 16-bit operand is joined again
from its two bytes. -/
theorem decode_encode {i : Instr} (hw : i.wellFormed = true) (rest : List Byte) :
    decode (encode i ++ rest) = .ok (i, rest) := by
  cases i
  case prefixCb => cases hw
  case ldBcD16 n | ldDeD16 n | ldHlD16 n | ldSpD16 n | ldIndA16Sp n | ldIndA16A n | ldAIndA16 n | jpA16 n | jpNzA16 n | jpZA16 n
      | jpNcA16 n | jpCA16 n | callA16 n | callNzA16 n | callZA16 n | callNcA16 n | callCA16 n =>
    conv_rhs => rw [← joinBytes_hiByte_loByte n]
    rfl
  all_goals rfl

/-- Where the bytes of a whole instruction lie at PC, a fetch runs it: PC passes its bytes, but for the first one under the
halt-bug marker, which is consumed (R125, R137). -/
theorem runInstruction_eq {s : State} {i : Instr} {b : Byte} {more : List Byte} (hw : i.wellFormed = true)
    (he : encode i = b :: more) (hb : s.readAt (s.cycleCount + 4) s.pc = b)
    (hm : s.holdsAt (s.cycleCount + 8) (if s.haltBug then s.pc else s.pc + 1) more) :
    runInstruction s = finish (exec i
      { s with haltBug := false, pc := (if s.haltBug then s.pc else s.pc + 1) + BitVec.ofNat 16 more.length,
               cycleCount := s.cycleCount + 4 + 4 * more.length }) := by
  obtain ⟨-, hbytes, hlen⟩ := State.instrBytes_eq hw he hb hm
  have hdec : decode s.instrBytes = .ok (i, []) := by
    rw [hbytes, ← List.append_nil (encode i)]; exact decode_encode hw []
  rw [runInstruction, hdec, State.afterFetch_eq, hlen]

/-- Settles O21: the marker makes the first byte's fetch leave PC where it is. -/
theorem haltBugFetchDoesNotAdvance : Obligations.HaltBugFetchDoesNotAdvance := by
  intro s i b more hf hbug hin hd hw he hb hm
  rw [step_of_boundary (by rw [State.atBoundary, hf]; rfl), State.arrive_of_nil hin, boundaryStep_of_fetch hf hd,
    runInstruction_eq hw he hb (by rw [if_pos hbug]; exact hm), if_pos hbug]

/-- Settles O22: the state in which the meaning starts is the one of `runInstruction_eq`, without the marker. -/
theorem stepRunsTheDecodedInstruction : Obligations.StepRunsTheDecodedInstruction := by
  intro s i hf hbug hd hw hm u
  obtain ⟨b, more, he, -⟩ := encode_cons hw
  have hbug' : s.arrive.haltBug = false := s.arrive_haltBug.trans hbug
  have hstep : step s = finish (exec i u) := by
    rw [he] at hm
    obtain ⟨hb, hmore⟩ := hm
    rw [step_of_boundary (by rw [State.atBoundary, hf]; rfl), boundaryStep_of_fetch (s.arrive_engine.trans hf) hd,
      runInstruction_eq hw he (by rw [State.arrive_cycleCount, State.arrive_pc]; exact hb) (by simpa [hbug] using hmore)]
    congr 2
    simp only [u, hbug, he, State.arrive_haltBug, State.arrive_pc, State.arrive_cycleCount, List.length_cons, Bool.false_eq_true,
      if_false]
    congr 1
    · bv_omega
    · omega
  constructor
  · intro t ht
    rw [hstep, ht]; rfl
  · intro f hfault
    rw [hstep, hfault]; rfl

end Sys2Proof.Machine
end

section
/-! PROOFS. Clock ticks (R120) and reset (R43). -/

namespace Sys2Proof.Machine

/-- A tick that is not the fourth only counts (R120). -/
theorem advance_of_ne {s : State} (h : s.tickDiv ≠ 3) :
    advance s = .next { s with tickDiv := s.tickDiv + 1, cycleCount := s.cycleCount + 1 } := if_neg h

/-- The fourth tick runs a machine cycle (R120). -/
theorem advance_of_eq {s : State} (h : s.tickDiv = 3) :
    advance s = machineCycle { s with tickDiv := 0, cycleCount := s.cycleCount + 1 } := if_pos h

theorem advances_one (s : State) : advances 1 s = advance s := by
  rw [advances]; cases advance s <;> rfl

/-- A tick that is not the fourth, then `k` more. -/
theorem advances_of_ne {s : State} (h : s.tickDiv ≠ 3) (k : Nat) :
    advances (k + 1) s = advances k { s with tickDiv := s.tickDiv + 1, cycleCount := s.cycleCount + 1 } := by
  rw [advances, advance_of_ne h]

/-- Settles O24: from divider 0 the first three ticks are none of them the fourth. -/
theorem everyFourthTickWorks : Obligations.EveryFourthTickWorks := by
  intro s h
  have h1 (k : Nat) : advances (k + 1) s = advances k { s with tickDiv := 1, cycleCount := s.cycleCount + 1 } := by
    rw [advances_of_ne (by rw [h]; decide), h]; rfl
  have h2 (k : Nat) : advances (k + 2) s = advances k { s with tickDiv := 2, cycleCount := s.cycleCount + 2 } := by
    rw [h1, advances_of_ne (show (1 : BitVec 2) ≠ 3 by decide)]; rfl
  have h3 (k : Nat) : advances (k + 3) s = advances k { s with tickDiv := 3, cycleCount := s.cycleCount + 3 } := by
    rw [h2, advances_of_ne (show (2 : BitVec 2) ≠ 3 by decide)]; rfl
  refine ⟨h1 0, h2 0, h3 0, ?_⟩
  rw [h3, advances_one, advance_of_eq rfl, ← h]

/-- Settles O26: at reset memory is empty, F is 0xB0, nothing is scheduled and the engine is at Fetch. -/
theorem resetIsSound : Obligations.ResetIsSound where
  left :=
    { mem_wf := Memory.wf_reset
      f_low := by decide
      sched_ime := fun _ => rfl
      dispatch_sched := nofun
      work_index := nofun
      work_row := nofun }
  right := ⟨rfl, nofun⟩

/-- Settles O29: each value is the one `State.reset` names. -/
theorem resetValues : Obligations.ResetValues := by
  unfold Obligations.ResetValues
  decide

end Sys2Proof.Machine
end

section
/-! PROOFS. Memory in its canonical form is determined by what it reads as (R65; log 3). -/

namespace Sys2Proof.Machine

/-- The canonical form, entry by entry. -/
theorem Memory.wfFrom_cons {lo a : Nat} {v : Byte} {rest : Memory} :
    Memory.wfFrom lo ((a, v) :: rest) = true ↔ lo ≤ a ∧ a < 65536 ∧ v ≠ 0 ∧ Memory.wfFrom (a + 1) rest = true := by
  simp [Memory.wfFrom, Memory.unlisted, and_assoc]

theorem Memory.read_cons_self (a : Nat) (v : Byte) (rest : Memory) : Memory.read ((a, v) :: rest) a = v := if_pos rfl

theorem Memory.read_cons_of_ne {a x : Nat} (h : x ≠ a) (v : Byte) (rest : Memory) :
    Memory.read ((a, v) :: rest) x = rest.read x := if_neg h

/-- A memory that reads like one whose first entry is at `a` reads as listed there. -/
theorem Memory.read_ne_zero_of_alike {lo a : Nat} {v : Byte} {rest m : Memory} (h : Memory.wfFrom lo ((a, v) :: rest) = true)
    (hr : ∀ x < 65536, Memory.read ((a, v) :: rest) x = m.read x) : m.read a ≠ 0 := by
  obtain ⟨-, ha, hv, -⟩ := Memory.wfFrom_cons.1 h
  rwa [← hr a ha, Memory.read_cons_self]

/-- Of two memories that read alike, neither begins below the other. -/
theorem Memory.head_le_of_alike {lo lo' a b : Nat} {v w : Byte} {rest rest' : Memory}
    (h : Memory.wfFrom lo ((a, v) :: rest) = true) (h' : Memory.wfFrom lo' ((b, w) :: rest') = true)
    (hr : ∀ x < 65536, Memory.read ((a, v) :: rest) x = Memory.read ((b, w) :: rest') x) : b ≤ a := by
  obtain ⟨-, hb⟩ := Memory.wfFrom_cons.1 h'
  by_contra hlt
  exact Memory.read_ne_zero_of_alike h hr
    (Memory.read_of_lt (Memory.wfFrom_cons.2 ⟨le_refl b, hb⟩) (Nat.lt_of_not_le hlt))

/-- Memories in canonical form that read alike are equal: their first entries are, and then so are the rests, which read as
unlisted up to there. -/
theorem Memory.eq_of_read_eq {lo lo' : Nat} {m m' : Memory} (h : Memory.wfFrom lo m = true) (h' : Memory.wfFrom lo' m' = true)
    (hr : ∀ x < 65536, m.read x = m'.read x) : m = m' := by
  induction m generalizing lo lo' m' with
  | nil =>
    cases m' with
    | nil => rfl
    | cons cell rest' =>
      exact absurd (Memory.read_nil cell.1) (Memory.read_ne_zero_of_alike h' fun x hx => (hr x hx).symm)
  | cons cell rest ih =>
    obtain ⟨a, v⟩ := cell
    cases m' with
    | nil => exact absurd (Memory.read_nil a) (Memory.read_ne_zero_of_alike h hr)
    | cons cell' rest' =>
      obtain ⟨b, w⟩ := cell'
      obtain rfl : a = b :=
        le_antisymm (Memory.head_le_of_alike h' h fun x hx => (hr x hx).symm) (Memory.head_le_of_alike h h' hr)
      obtain ⟨-, ha, -, hrest⟩ := Memory.wfFrom_cons.1 h
      obtain ⟨-, -, -, hrest'⟩ := Memory.wfFrom_cons.1 h'
      have hv : v = w := by simpa [Memory.read_cons_self] using hr a ha
      have hreads (x : Nat) (hx : x < 65536) : Memory.read rest x = Memory.read rest' x := by
        by_cases hxa : x = a
        · rw [hxa, Memory.read_of_lt hrest a.lt_succ_self, Memory.read_of_lt hrest' a.lt_succ_self]
        · simpa [Memory.read_cons_of_ne hxa] using hr x hx
      rw [hv, ih hrest hrest' hreads]

/-- Settles O31: `Memory.wf_write` and `Memory.eq_of_read_eq`. -/
theorem memoryIsCanonical : Obligations.MemoryIsCanonical :=
  ⟨fun _ a _ h => Memory.wf_write a.isLt h, fun _ _ h h' hr =>
    Memory.eq_of_read_eq h h' fun x hx => by simpa [Nat.mod_eq_of_lt hx] using hr (BitVec.ofNat 16 x)⟩

end Sys2Proof.Machine
end

section
/-! PROOFS. The sprite-memory region as the bus reads it, and the quirk call (R392 to R396). -/

namespace Sys2Proof.Machine

/-- The bus reads the region's bytes from memory, in order (R78, R394). -/
theorem State.readAt_oam (s : State) (n : Nat) {i : Nat} (h : i < oamSize) :
    s.readAt n (0xFE00 + BitVec.ofNat 16 i) = s.mem.read (Config.oamLo.toNat + i) := by
  have hsize : oamSize = 256 := rfl
  have hlo : Config.oamLo.toNat = 65024 := rfl
  have haddr : (0xFE00 + BitVec.ofNat 16 i : Word).toNat = Config.oamLo.toNat + i := by
    rw [BitVec.toNat_add, BitVec.toNat_ofNat, show (0xFE00 : Word).toNat = 65024 from rfl]; omega
  have hie : Config.ieAddr.toNat = 65535 := rfl
  have hifr : Config.ifAddr.toNat = 65295 := rfl
  have ne {c : Word} (hc : 65280 ≤ c.toNat) : (0xFE00 + BitVec.ofNat 16 i : Word) ≠ c := by
    rintro rfl; omega
  rw [State.readAt_def, if_neg (ne (by omega)), if_neg (ne (by omega)), haddr]

theorem oamBytes_eq_readAt (s : State) (n : Nat) :
    oamBytes s.mem = (List.range 256).map fun j => s.readAt n (0xFE00 + BitVec.ofNat 16 j) :=
  List.map_congr_left fun _ hj => (s.readAt_oam n (List.mem_range.1 hj)).symm

/-- A quirk call by cases (R394). -/
theorem State.quirk_eq_ite (s : State) (tag : QuirkTag) (a : Word) :
    s.quirk tag a = if armed s.platform s.cycleCount a
      then { s with mem := oamCorrupted tag (Config.ticksInLine s.cycleCount) s.mem } else s := by
  split
  · next h => exact State.quirk_of_armed tag h
  · next h => exact State.quirk_of_not_armed tag h

/-- What a quirk call makes of each byte of the region (R396; log 8). -/
theorem State.readAt_quirk_oam (s : State) (tag : QuirkTag) (a : Word) (n : Nat) {i : Nat} (h : i < oamSize) :
    (s.quirk tag a).readAt n (0xFE00 + BitVec.ofNat 16 i) =
      if armed s.platform s.cycleCount a then Config.oamCorrupt tag (Config.ticksInLine s.cycleCount) (oamBytes s.mem) i
      else s.readAt n (0xFE00 + BitVec.ofNat 16 i) := by
  rw [State.quirk_eq_ite]
  split
  · rw [State.readAt_oam _ n h, read_oamCorrupted_of_lt tag _ s.mem h]
  · rfl

/-- Settles O32: `State.quirk_eq_ite`, `State.readAt_quirk` outside the region and `State.readAt_quirk_oam` inside. -/
theorem quirkTouchesOnlySpriteMemory : Obligations.QuirkTouchesOnlySpriteMemory := by
  intro tag addr s
  refine ⟨State.quirk_of_not_armed tag, fun hp => State.quirk_of_not_armed tag ?_, s.quirk_eq tag addr,
    fun n _ ha => s.readAt_quirk tag addr n ha, s.quirk_eq_ite tag addr, fun n i hi => ?_⟩
  · rw [hp]; exact not_armed_reference _ addr
  · rw [← oamBytes_eq_readAt s n]; exact s.readAt_quirk_oam tag addr n hi

end Sys2Proof.Machine
end

section
/-! PROOFS. PUSH and POP where no quirk call is armed: POP brings back what PUSH stored (R190, R195 to R197). -/

namespace Sys2Proof.Machine

theorem State.stackPair_setStackPair (s : State) (rr : StackReg) (v : Word) :
    (s.setStackPair rr v).stackPair rr = if rr = .af then v &&& 0xFFF0 else v := by
  cases rr
  case bc => exact s.bc_setBc v
  case de => exact s.de_setDe v
  case hl => exact s.hl_setHl v
  case af => exact s.af_setAf v

theorem State.read8_of_memory {s : State} {a : Word} (h : isController a = false) : s.read8 a = s.mem.read a.toNat := by
  rw [isController_eq_false] at h
  simp [State.read8, h.1, h.2]

section
variable {s : State}

/-- A push, after an internal cycle, that is not at IE or IF and whose quirk calls are not armed, as one update (R190). -/
theorem State.push16_of_not_armed (h1 : isController (s.sp - 1) = false) (h2 : isController (s.sp - 2) = false)
    (q1 : ¬ armed s.platform (s.cycleCount + 8) s.sp) (q2 : ¬ armed s.platform (s.cycleCount + 12) (s.sp - 1)) (v : Word) :
    s.nextCycle.push16 v =
      { s with sp := s.sp - 2, cycleCount := s.cycleCount + 12,
               mem := (s.mem.write (s.sp - 1).toNat (hiByte v)).write (s.sp - 2).toNat (loByte v) } := by
  rw [State.push16_eq]
  dsimp only
  rw [State.quirk_of_not_armed (s := { s with cycleCount := s.cycleCount + 8 }) .push1 q1, State.write8_of_memory h1]
  dsimp only
  rw [State.quirk_of_not_armed .push2 (by exact q2), State.write8_of_memory h2]

/-- The bytes such a push leaves below the old SP, the high byte above the low one (R67, R190). -/
theorem State.read8_push16_of_not_armed (h1 : isController (s.sp - 1) = false) (h2 : isController (s.sp - 2) = false)
    (q1 : ¬ armed s.platform (s.cycleCount + 8) s.sp) (q2 : ¬ armed s.platform (s.cycleCount + 12) (s.sp - 1)) (v : Word) :
    (s.nextCycle.push16 v).read8 (s.sp - 1) = hiByte v ∧ (s.nextCycle.push16 v).read8 (s.sp - 2) = loByte v := by
  have hne : (s.sp - 1).toNat ≠ (s.sp - 2).toNat := fun h => word_sub_one_ne_sub_two s.sp (BitVec.eq_of_toNat_eq h)
  rw [State.push16_of_not_armed h1 h2 q1 q2, State.read8_of_memory h1, State.read8_of_memory h2]
  exact ⟨(Memory.read_write_of_ne _ _ hne).trans (Memory.read_write_self _ _ _), Memory.read_write_self _ _ _⟩

/-- A pop whose quirk calls are not armed moves SP and reads the two bytes at it (R190). -/
theorem State.pop16_of_not_armed (h1 : isController s.sp = false) (h2 : isController (s.sp + 1) = false)
    (q1 : ¬ armed s.platform (s.cycleCount + 4) s.sp) (q2 : ¬ armed s.platform (s.cycleCount + 8) (s.sp + 1)) :
    s.pop16Next = { s with sp := s.sp + 2, cycleCount := s.cycleCount + 8 }
      ∧ s.pop16Value = joinBytes (s.read8 (s.sp + 1)) (s.read8 s.sp) := by
  obtain ⟨hnext, hvalue⟩ := s.pop16_eq
  rw [State.quirk_of_not_armed (s := { s with cycleCount := s.cycleCount + 4 }) .pop1 q1,
    State.quirk_of_not_armed .pop2 (by exact q2)] at hnext hvalue
  refine ⟨hnext, ?_⟩
  rw [← State.readAt_eq_read8 h1 (s.cycleCount + 4), ← State.readAt_eq_read8 h2 (s.cycleCount + 8)]
  exact hvalue

end

/-- Settles O41: a push stores the two bytes that the pop at the new SP reads. -/
theorem popUndoesPush : Obligations.PopUndoesPush := by
  intro i j s rr rr' hi hj h1 h2 q1 q2 q3 q4
  generalize hv : s.stackPair rr = v
  have hpush : exec i s = .next (s.nextCycle.push16 v) := by rw [exec_of_form hi, ← hv]; rfl
  obtain ⟨hhi, hlo⟩ := State.read8_push16_of_not_armed h1 h2 q1 q2 v
  have hsp : (s.nextCycle.push16 v).sp = s.sp - 2 := (s.nextCycle.push16_sp v).trans (word_sub_one_sub_one _)
  have hsp' : s.sp - 2 + 1 = s.sp - 1 := word_sub_two_add_one _
  generalize ht : s.nextCycle.push16 v = t at *
  have hc : t.cycleCount = s.cycleCount + 12 := by simp [← ht]
  have hp : t.platform = s.platform := by simp [← ht]
  obtain ⟨hnext, hvalue⟩ := State.pop16_of_not_armed (s := t) (by rwa [hsp]) (by rwa [hsp, hsp'])
    (by rwa [hsp, hc, hp]) (by rwa [hsp, hsp', hc, hp])
  rw [hsp, hsp', hhi, hlo, joinBytes_hiByte_loByte] at hvalue
  have hread {a : Word} (ha : isController a = false) : (t.pop16Next.setStackPair rr' t.pop16Value).read8 a = t.read8 a := by
    rw [State.read8_of_memory ha, State.read8_of_memory ha, State.setStackPair_mem, hnext]
  refine ⟨t, t.pop16Next.setStackPair rr' t.pop16Value, hpush, exec_of_form hj t, ?_, ?_, ?_, ?_⟩
  · rw [State.setStackPair_sp, hnext, hsp]; exact BitVec.sub_add_cancel _ _
  · rw [State.stackPair_setStackPair, hvalue]
  · exact (hread h1).trans hhi
  · exact (hread h2).trans hlo

end Sys2Proof.Machine
end

section
/-! PROOFS. The bus: a read after a write, of a byte or of a word (R60 to R62, R67, R356). -/

namespace Sys2Proof.Machine

/-! ### The controller registers' bits -/

theorem append_extract_eq_or : ∀ v : Byte, (7 : BitVec 3) ++ v.extractLsb' 0 5 = 0xE0 ||| v := by decide

theorem setWidth_extract_eq_and : ∀ v : Byte, (v.extractLsb' 0 5).setWidth 8 = v &&& 0x1F := by decide

theorem extract_append (x : BitVec 3) (y : BitVec 5) : (x ++ y : Byte).extractLsb' 0 5 = y := by
  revert x y; decide

/-- The five low bits of a word's low byte, and of its high byte (R335, R336). -/
theorem extract_loByte (x : Word) : (loByte x).extractLsb' 0 5 = x.extractLsb' 0 5 := by
  rw [loByte, BitVec.extractLsb'_extractLsb'_of_le (by decide)]

theorem extract_hiByte (x : Word) : (hiByte x).extractLsb' 0 5 = x.extractLsb' 8 5 := by
  ext k hk
  have hk8 : k < 8 := by omega
  simp [hiByte, hk8]

section
variable (s : State)

/-! ### A byte -/

theorem State.readAt_writeIF (n : Nat) (v : Byte) : (s.write8 Config.ifAddr v).readAt n Config.ifAddr = 0xE0 ||| v := by
  rw [State.write8_ifr_self, ← append_extract_eq_or]; rfl

theorem State.extract_readAt_writeIE (n : Nat) (v : Byte) :
    ((s.write8 Config.ieAddr v).readAt n Config.ieAddr).extractLsb' 0 5 = v.extractLsb' 0 5 := extract_append _ _

/-- On the reference platform zeros stand above the bits IE keeps (R78). -/
theorem State.readAt_writeIE_reference {s : State} (h : s.platform = .reference) (n : Nat) (v : Byte) :
    (s.write8 Config.ieAddr v).readAt n Config.ieAddr = v &&& 0x1F :=
  (State.readIE_reference (s := { s.writeIE v with cycleCount := n }) h).trans (setWidth_extract_eq_and v)

/-- A write changes memory, IE and IF only (R61, R356). -/
theorem State.write8_eq (a : Word) (v : Byte) :
    s.write8 a v = { s with mem := (s.write8 a v).mem, ie := (s.write8 a v).ie, ifr := (s.write8 a v).ifr } := by
  unfold State.write8
  split <;> [rfl; split <;> rfl]

/-! ### A word -/

theorem word_add_one_ne (a : Word) : a + 1 ≠ a := by bv_omega

theorem State.read8_write16_lo {a : Word} (h : isController a = false) (x : Word) : (s.write16 a x).read8 a = loByte x := by
  rw [State.write16, State.read8_write8_of_ne _ _ (word_add_one_ne a).symm, State.read8_write8_self _ _ h]

theorem State.read8_write16_hi {a : Word} (h : isController (a + 1) = false) (x : Word) :
    (s.write16 a x).read8 (a + 1) = hiByte x := State.read8_write8_self _ _ h

theorem State.read16_write16 {a : Word} (h : isController a = false) (h' : isController (a + 1) = false) (x : Word) :
    (s.write16 a x).read16 a = x := by
  rw [State.read16, State.read8_write16_lo s h, State.read8_write16_hi s h', joinBytes_hiByte_loByte]

/-- A write of a word changes no third address (R62). -/
theorem State.readAt_write16_of_ne (n : Nat) {a b : Word} (h : b ≠ a) (h' : b ≠ a + 1) (x : Word) :
    (s.write16 a x).readAt n b = s.readAt n b := by
  rw [State.write16, State.readAt_write8_of_ne _ n _ h', State.readAt_write8_of_ne _ n _ h]

/-- The byte of a word that falls on a controller register's address leaves its five low bits there (R335, R336, R356). -/
theorem State.write16_ie_hi (x : Word) : (s.write16 0xFFFE x).ie = x.extractLsb' 8 5 := extract_hiByte x

theorem State.write16_ifr_hi (x : Word) : (s.write16 0xFF0E x).ifr = x.extractLsb' 8 5 := by
  rw [State.write16, State.write8_ifr, if_pos (by decide), extract_hiByte]

theorem State.write16_ifr_lo (x : Word) : (s.write16 0xFF0F x).ifr = x.extractLsb' 0 5 := by
  rw [State.write16, State.write8_ifr, if_neg (by decide), State.write8_ifr, if_pos (by decide), extract_loByte]

/-- At 0xFFFF the next address wraps to 0x0000 (D20). -/
theorem State.write16_wrap (x : Word) :
    s.write16 0xFFFF x = State.write8 { s with ie := x.extractLsb' 0 5 } 0x0000 (hiByte x) := by
  rw [← extract_loByte]; rfl

end

/-- Settles O30: a write to an ordinary address, to IF and to IE; the frame of a write; and the words, at an ordinary address
and where one of the two bytes falls on a register. -/
theorem readAfterWrite : Obligations.ReadAfterWrite := by
  intro s n a b v
  refine ⟨s.readAt_write8_self n v, s.readAt_writeIF n v, s.extract_readAt_writeIE n v,
    fun h => State.readAt_writeIE_reference h n v, s.readAt_write8_of_ne n v, s.write8_eq a v, ?ordinary, rfl,
    fun x h h' => s.readAt_write16_of_ne n h h' x, ?wrap, rfl, fun x => ⟨?ie, ?ifBelow, ?ifHere⟩⟩
  case ordinary =>
    exact fun h h' x => ⟨s.read8_write16_lo h x, s.read8_write16_hi h' x, s.read16_write16 h h' x⟩
  case wrap =>
    refine fun x => ⟨s.write16_wrap x, ?_, s.read8_write16_hi (a := 0xFFFF) rfl x⟩
    rw [s.write16_wrap]; rfl
  case ie => exact ⟨s.read8_write16_lo (a := 0xFFFE) rfl x, s.write16_ie_hi x⟩
  case ifBelow => exact ⟨s.read8_write16_lo (a := 0xFF0E) rfl x, s.write16_ifr_hi x⟩
  case ifHere => exact ⟨s.write16_ifr_lo x, s.read8_write16_hi (a := 0xFF0F) rfl x⟩

end Sys2Proof.Machine
end

section
/-! PROOFS. Every instruction that the opcode map assigns completes (R63, R68, R332, R354). -/

namespace Sys2Proof.Machine

/-- Settles O33: the only operation without a next state is that of the unassigned opcodes. -/
theorem everyAssignedInstructionCompletes : Obligations.EveryAssignedInstructionCompletes := by
  intro i s h
  rw [exec_eq_execForm]
  rcases execForm_cases i.form s with ⟨op, hop, -⟩ | hnext
  · rw [unassigned_iff.2 ⟨op, hop⟩] at h
    exact Bool.noConfusion h
  · exact ⟨_, hnext⟩

end Sys2Proof.Machine
end

section
/-! PROOFS. No operation changes what an address reads as, but for its stores and its armed quirk calls (R61, R72, R394, R396). -/

namespace Sys2Proof.Machine

/-- What no armed call of these changes: an address outside the sprite-memory region, or any address where none is armed
(R394, R396). -/
def Spared (p : Platform) (a : Word) (calls : List (Nat × Word)) : Prop := inOam a = false ∨ ∀ q ∈ calls, ¬ armed p q.1 q.2

section
variable {a : Word} (n : Nat)

theorem Spared.readAt_quirk {s : State} {tag : QuirkTag} {x : Word} (h : Spared s.platform a [(s.cycleCount, x)]) :
    (s.quirk tag x).readAt n a = s.readAt n a := by
  rcases h with h | h
  · exact s.readAt_quirk tag x n h
  · rw [State.quirk_of_not_armed tag (h _ (List.mem_singleton_self _))]

theorem Spared.first {p : Platform} {q r : Nat × Word} (h : Spared p a [q, r]) : Spared p a [q] :=
  h.imp_right fun h => List.forall_mem_singleton.2 (h q (by simp))

theorem Spared.second {p : Platform} {q r : Nat × Word} (h : Spared p a [q, r]) : Spared p a [r] :=
  h.imp_right fun h => List.forall_mem_singleton.2 (h r (by simp))

variable (s : State)

@[simp] theorem State.readAt_nextCycle : s.nextCycle.readAt n a = s.readAt n a := rfl

theorem State.readAt_setPc (x : Word) : ({ s with pc := x } : State).readAt n a = s.readAt n a := rfl

theorem State.readAt_returnFromInterrupt (x : Word) : (s.returnFromInterrupt x).readAt n a = s.readAt n a := rfl

theorem State.readAt_setPair (rr : Reg16) (v : Word) : (s.setPair rr v).readAt n a = s.readAt n a :=
  State.readAt_congr (by simp) (by simp) (by simp) (by simp) n a

theorem State.readAt_setStackPair (rr : StackReg) (v : Word) : (s.setStackPair rr v).readAt n a = s.readAt n a :=
  State.readAt_congr (by simp) (by simp) (by simp) (by simp) n a

theorem State.readAt_indAfter (p : IndPtr) : (s.indAfter p).readAt n a = s.readAt n a :=
  State.readAt_congr (by simp) (by simp) (by simp) (by simp) n a

theorem State.readAt_pushByte (tag : QuirkTag) (v : Byte) (ha : a ≠ s.sp - 1)
    (h : Spared s.platform a [(s.cycleCount, s.sp)]) : (s.pushByte tag v).readAt n a = s.readAt n a :=
  (State.readAt_write8_of_ne _ n v ha).trans (h.readAt_quirk n)

theorem State.readAt_popNext (tag : QuirkTag) (h : Spared s.platform a [(s.cycleCount, s.sp)]) :
    (s.popNext tag).readAt n a = s.readAt n a := h.readAt_quirk n

/-- A push, after an internal cycle (R190, R195). -/
theorem State.readAt_push16 (v : Word) (ha : a ∉ [s.sp - 1, s.sp - 2])
    (h : Spared s.platform a [(s.cycleCount + 8, s.sp), (s.cycleCount + 12, s.sp - 1)]) :
    (s.nextCycle.push16 v).readAt n a = s.readAt n a := by
  obtain ⟨h1, h2⟩ : a ≠ s.sp - 1 ∧ a ≠ s.sp - 2 := by simpa using ha
  have hi : (s.nextCycle.nextCycle.pushHi v).readAt n a = s.readAt n a :=
    State.readAt_pushByte n s.nextCycle.nextCycle .push1 (hiByte v) h1 h.first
  refine (State.readAt_pushByte n _ .push2 (loByte v) ?_ ?_).trans hi
  · rwa [State.nextCycle_sp, State.pushHi_sp, State.nextCycle_sp, State.nextCycle_sp, word_sub_one_sub_one]
  · simpa using h.second

/-- A pop (R190, R196). -/
theorem State.readAt_pop16Next (h : Spared s.platform a [(s.cycleCount + 4, s.sp), (s.cycleCount + 8, s.sp + 1)]) :
    s.pop16Next.readAt n a = s.readAt n a := by
  have lo : (s.nextCycle.popNext .pop1).readAt n a = s.readAt n a := State.readAt_popNext n s.nextCycle .pop1 h.first
  refine (State.readAt_popNext n _ .pop2 ?_).trans lo
  simpa using h.second

theorem State.readAt_callTo (x : Word) (ha : a ∉ [s.sp - 1, s.sp - 2])
    (h : Spared s.platform a [(s.cycleCount + 8, s.sp), (s.cycleCount + 12, s.sp - 1)]) :
    (s.callTo x).readAt n a = s.readAt n a := State.readAt_push16 n s s.pc ha h

/-- An address that an operation does not store to reads as before, unless an armed quirk call of the operation may change it. -/
theorem nextForm_readAt {f : Form} (ha : a ∉ storedAddrs f s) (h : Spared s.platform a (quirkCalls f s)) :
    (nextForm f s).readAt n a = s.readAt n a := by
  cases f
  case ldHlReg | ldHlImm | ldAbsA | ldhImmA | ldhCA =>
    exact State.readAt_write8_of_ne s.nextCycle n _ (List.mem_singleton.not.1 ha)
  case incHl | decHl | rotHl | resHl | setHl =>
    exact State.readAt_write8_of_ne s.nextCycle.nextCycle n _ (List.mem_singleton.not.1 ha)
  case ldIndA =>
    exact (State.readAt_indAfter n _ _).trans (State.readAt_write8_of_ne s.nextCycle n _ (List.mem_singleton.not.1 ha))
  case ldAbsSp x =>
    obtain ⟨hlo, hhi⟩ : a ≠ x ∧ a ≠ x + 1 := by simpa [storedAddrs] using ha
    exact (State.readAt_write8_of_ne _ n _ hhi).trans (State.readAt_write8_of_ne s.nextCycle n _ hlo)
  case ldPairImm => exact (State.readAt_setPair n _ _ _).trans (h.readAt_quirk n)
  case incPair | decPair => exact (State.readAt_setPair n _ _ _).trans (Spared.readAt_quirk (s := s.nextCycle) n h)
  case push => exact s.readAt_push16 n _ ha h
  case call | rst => exact s.readAt_callTo n _ ha h
  case callCond cc x =>
    cases hc : s.cond cc
    case false => simp [hc]
    case true =>
      rw [storedAddrs, if_pos hc] at ha
      rw [quirkCalls, if_pos hc] at h
      rw [nextForm_callCond, if_pos hc]
      exact s.readAt_callTo n x ha h
  case pop => exact (State.readAt_setStackPair n _ _ _).trans (s.readAt_pop16Next n h)
  case ret => rw [nextForm_ret, State.readAt_setPc]; exact s.readAt_pop16Next n h
  case reti => rw [nextForm_reti, State.readAt_returnFromInterrupt]; exact s.readAt_pop16Next n h
  case retCond cc =>
    cases hc : s.cond cc
    case false => simp [hc]
    case true =>
      rw [quirkCalls, if_pos hc] at h
      rw [nextForm_retCond, if_pos hc, State.readAt_setPc]
      exact State.readAt_pop16Next n s.nextCycle h
  case halt => rw [nextForm_halt]; split <;> rfl
  case jpCond => rw [nextForm_jpCond]; split <;> rfl
  case jrCond => rw [nextForm_jrCond]; split <;> rfl
  all_goals exact State.readAt_congr (by simp) (by simp) (by simp) (by simp) n a

end

/-- Settles O60: a meaning that completes answers the next state of its operation, whose reads `nextForm_readAt` compares. -/
theorem frameOfMemory : Obligations.FrameOfMemory := by
  intro i s t n a h ha hq
  rw [exec_next h]
  exact nextForm_readAt n s ha hq

end Sys2Proof.Machine
end

section
/-! PROOFS. Decoding, case by case, and the bytes of what it answers (R90, R103, R106, R127, R310): every list of bytes is the
table-selecting byte alone, or lacks operand bytes, or begins with all the bytes that its first one calls for. -/

namespace Sys2Proof.Machine

/-- Settles O1: each of the sixteen words is closed, and the decoder evaluates on it. -/
theorem decodeSampleWords : Obligations.DecodeSampleWords :=
  ⟨rfl, rfl, rfl, rfl, rfl, rfl, rfl, rfl, rfl, rfl, rfl, rfl, rfl, rfl, rfl, rfl⟩

/-- Settles O2: `decode_encode`. -/
theorem decodeReadsBackEveryEncoding : Obligations.DecodeReadsBackEveryEncoding := fun _ rest hw => decode_encode hw rest

/-! ### What decoding answers -/

section
variable {op : Byte} {bs rest bytes : List Byte} {i : Instr}

/-- The table-selecting byte calls for one more (R106). -/
theorem ne_cbByte_of_bytesAfter_eq_zero (h : bytesAfter op = 0) : op ≠ Config.cbByte := by
  rintro rfl
  cases h

/-- Where the first byte has as many bytes after it as it calls for, its row is decoded and the rest is left. -/
theorem decode_cons (h : bs.length = bytesAfter op) (rest : List Byte) :
    decode (op :: (bs ++ rest)) = .ok (instrOfBytes op (bs.getD 0 0) (bs.getD 1 0), rest) := by
  have hle := bytesAfter_le op
  match bs with
  | [] =>
    have hop : op ≠ Config.cbByte := ne_cbByte_of_bytesAfter_eq_zero h.symm
    simp [decode, hop, ← h]
  | [_] | [_, _] => simp [decode, ← h]
  | _ :: _ :: _ :: _ => simp only [List.length_cons] at h; omega

/-- Where bytes are missing, the error names how many. -/
theorem decode_of_lt (hop : ¬ (op = Config.cbByte ∧ bs = [])) (h : bs.length < bytesAfter op) :
    decode (op :: bs) = .error (.truncated op (bytesAfter op - bs.length)) := by
  have hle := bytesAfter_le op
  refine (if_neg hop).trans ?_
  generalize bytesAfter op = k at h hle
  match k, bs with
  | 1, [] | 2, [] | 2, [_] => rfl
  | 0, _ => exact absurd h (Nat.not_lt_zero _)
  | 1, _ :: _ | 2, _ :: _ :: _ => simp only [List.length_cons] at h; omega
  | _ + 3, _ => omega

/-- The two ways in which bytes are decoded. -/
theorem decode_ok (h : decode bytes = .ok (i, rest)) :
    (bytes = [Config.cbByte] ∧ i = .prefixCb ∧ rest = [])
      ∨ ∃ op bs, bs.length = bytesAfter op ∧ bytes = op :: (bs ++ rest) ∧ i = instrOfBytes op (bs.getD 0 0) (bs.getD 1 0) := by
  match bytes with
  | [] => cases h
  | op :: tail =>
    by_cases hop : op = Config.cbByte ∧ tail = []
    · obtain ⟨rfl, rfl⟩ := hop
      cases h
      exact .inl ⟨rfl, rfl, rfl⟩
    by_cases hlt : tail.length < bytesAfter op
    · rw [decode_of_lt hop hlt] at h
      cases h
    have hlen : (tail.take (bytesAfter op)).length = bytesAfter op := List.length_take_of_le (Nat.not_lt.1 hlt)
    have hcat := List.take_append_drop (bytesAfter op) tail
    rw [← hcat, decode_cons hlen] at h
    cases h
    exact .inr ⟨op, _, hlen, by rw [hcat], rfl⟩
end

/-! ### The bytes of a row of the tables -/

theorem encode_extInstr : ∀ b : Byte, encode (extInstr b) = [Config.cbByte, b] := by decide

theorem opcode_baseInstr : ∀ op : Byte, (encode (baseInstr op 0 0)).take 1 = [op] := by decide

/-- The bytes of a base operation: its opcode, then the operand bytes it was given, low byte first (R67, R92, R93). -/
theorem encode_withOperands {f : Form} (hf : f.format ≠ .cbOp) (b1 b2 : Byte) :
    (f.withOperands b1 b2).encode = f.encode.take 1 ++ [b1, b2].take f.format.bytesAfterFirst := by
  cases f
  case rotReg | rotHl | bitReg | bitHl | resReg | resHl | setReg | setHl => exact absurd rfl hf
  case ldPairImm | ldAbsSp | ldAbsA | ldAAbs | jp | jpCond | call | callCond =>
    simp [Form.withOperands, Form.encode, Form.format, Format.bytesAfterFirst]
  all_goals rfl

theorem encode_baseInstr (op b1 b2 : Byte) :
    encode (baseInstr op b1 b2) = op :: [b1, b2].take (baseInstr op 0 0).form.format.bytesAfterFirst := by
  rw [encode, baseInstr_form, encode_withOperands (baseInstr_format op)]
  exact congrArg (· ++ _) (opcode_baseInstr op)

/-- The instruction that bytes select is encoded in these bytes. -/
theorem encode_instrOfBytes {op : Byte} {bs : List Byte} (h : bs.length = bytesAfter op) :
    encode (instrOfBytes op (bs.getD 0 0) (bs.getD 1 0)) = op :: bs := by
  have hle : bs.length ≤ 2 := h ▸ bytesAfter_le op
  by_cases hop : op = Config.cbByte
  · subst hop
    obtain ⟨b, rfl⟩ := List.length_eq_one_iff.1 h
    exact encode_extInstr b
  · rw [instrOfBytes, if_neg hop, encode_baseInstr]
    rw [bytesAfter, if_neg hop] at h
    rw [← h]
    match bs with
    | [] | [_] | [_, _] => rfl
    | _ :: _ :: _ :: _ => simp only [List.length_cons] at hle; omega

/-- The row that was decoded is encoded in the bytes that selected it. -/
theorem eq_encode_of_decode {bytes rest : List Byte} {i : Instr} (h : decode bytes = .ok (i, rest)) : bytes = encode i ++ rest := by
  rcases decode_ok h with ⟨rfl, rfl, rfl⟩ | ⟨op, bs, hlen, rfl, rfl⟩
  · rfl
  · rw [encode_instrOfBytes hlen]; rfl

/-- Settles O3: `eq_encode_of_decode`. -/
theorem decodedBytesAreTheEncoding : Obligations.DecodedBytesAreTheEncoding := fun _ _ _ h => eq_encode_of_decode h

/-! ### Totality -/

theorem wellFormed_of_form {i : Instr} (h : i.form ≠ .cbTable) : i.wellFormed = true := by
  unfold Instr.wellFormed
  split
  · next hcb => exact absurd hcb h
  · rfl

theorem withOperands_ne_cbTable {f : Form} (h : f ≠ .cbTable) (b1 b2 : Byte) : f.withOperands b1 b2 ≠ .cbTable := by
  cases f
  case cbTable => exact absurd rfl h
  all_goals nofun

/-- The bytes of an instruction select a whole one: the row of the table-selecting byte is not among them (R310). -/
theorem wellFormed_instrOfBytes (op b1 b2 : Byte) : (instrOfBytes op b1 b2).wellFormed = true := by
  refine wellFormed_of_form ?_
  unfold instrOfBytes
  split
  · intro h
    have hformat := extInstr_format b1
    rw [h] at hformat
    cases hformat
  · next hop =>
    rw [baseInstr_form]
    exact withOperands_ne_cbTable (baseInstr_ne_cbTable op hop) b1 b2

/-- Settles O4: no first byte calls for more than two others, so that three bytes are enough and one lacks at most two. -/
theorem decodeIsTotal : Obligations.DecodeIsTotal := by
  constructor
  · intro b0 b1 b2 rest
    have hle := bytesAfter_le b0
    have hlen : ((b1 :: b2 :: rest).take (bytesAfter b0)).length = bytesAfter b0 :=
      List.length_take_of_le (by simp only [List.length_cons]; omega)
    have hdec := decode_cons hlen ((b1 :: b2 :: rest).drop (bytesAfter b0))
    rw [List.take_append_drop] at hdec
    refine ⟨_, _, hdec, wellFormed_instrOfBytes _ _ _, ?_⟩
    rw [encode_instrOfBytes hlen, List.length_cons, hlen]
    omega
  · intro b
    have hle := bytesAfter_le b
    by_cases hcb : b = Config.cbByte
    · subst hcb; exact .inl ⟨_, rfl⟩
    by_cases h0 : bytesAfter b = 0
    · exact .inl ⟨_, decode_cons (bs := []) h0.symm []⟩
    · refine .inr ⟨_, decode_of_lt (fun h => hcb h.1) (Nat.pos_of_ne_zero h0), ?_⟩
      rw [List.length_nil]
      omega

end Sys2Proof.Machine
end

section
/-! PROOFS. The unassigned opcodes, and the faults of a step and of a machine cycle (R104, R136, R311, R331). -/

namespace Sys2Proof.Machine

/-! ### The eleven rows -/

/-- The opcodes to which the base table assigns no instruction (R104). -/
def unassignedOpcodes : List Byte := [0xD3, 0xDB, 0xDD, 0xE3, 0xE4, 0xEB, 0xEC, 0xED, 0xF4, 0xFC, 0xFD]

/-- Their rows. -/
def unassignedInstrs : List Instr :=
  [.illegalD3, .illegalDB, .illegalDD, .illegalE3, .illegalE4, .illegalEB, .illegalEC, .illegalED, .illegalF4, .illegalFC,
    .illegalFD]

theorem unassigned_of_mem : ∀ i ∈ unassignedInstrs, i.unassigned = true := by decide

theorem baseInstr_unassigned : ∀ op : Byte, (baseInstr op 0 0).unassigned = true →
    op ∈ unassignedOpcodes ∧ baseInstr op 0 0 ∈ unassignedInstrs := by decide

section
variable {i : Instr} {op : Byte}

theorem encode_of_unassigned (h : i.form = .unassigned op) : encode i = [op] := congrArg Form.encode h

/-- An unassigned row is the base table's row for its one byte: that byte decodes to it. -/
theorem eq_baseInstr_of_unassigned (h : i.form = .unassigned op) : i = baseInstr op 0 0 := by
  have hdec : decode [op] = .ok (i, []) := by
    rw [← encode_of_unassigned h, ← List.append_nil (encode i)]
    exact decode_encode (wellFormed_of_form (by rw [h]; nofun)) []
  rcases decode_ok hdec with ⟨-, rfl, -⟩ | ⟨op', bs, hlen, hbytes, rfl⟩
  · cases h
  · obtain ⟨rfl, hnil⟩ := List.cons.inj hbytes
    obtain ⟨rfl, -⟩ := List.append_eq_nil_iff.1 hnil.symm
    exact if_neg (ne_cbByte_of_bytesAfter_eq_zero hlen.symm)

theorem mem_of_unassigned (h : i.form = .unassigned op) : op ∈ unassignedOpcodes ∧ i ∈ unassignedInstrs := by
  have hi := eq_baseInstr_of_unassigned h
  obtain ⟨hop, hrow⟩ := baseInstr_unassigned op (hi ▸ unassigned_iff.2 ⟨op, h⟩)
  exact ⟨hop, hi ▸ hrow⟩
end

/-- Settles O34: `mem_of_unassigned`; and the meaning of an unassigned row is the fault that names its byte. -/
theorem unassignedOpcodesFault : Obligations.UnassignedOpcodesFault := by
  refine fun i s => ⟨⟨unassigned_of_mem i, fun h => ?_⟩, fun op h => ⟨encode_of_unassigned h, exec_of_form h s⟩⟩
  obtain ⟨op, hop⟩ := unassigned_iff.1 h
  exact (mem_of_unassigned hop).2

/-! ### The faults of an instruction and of a step from a boundary -/

section
variable {s : State} {f : Fault}

theorem execForm_fault {x : Form} (h : execForm x s = .fault f) : ∃ op, x = .unassigned op ∧ f = .unknownOpcode op := by
  rcases execForm_cases x s with ⟨op, hx, hfault⟩ | hnext
  · rw [hfault] at h
    cases h
    exact ⟨op, hx, rfl⟩
  · rw [hnext] at h
    cases h

theorem finish_fault {r : Result} (h : finish r = .fault f) : r = .fault f := by
  cases r
  case fault => exact h
  all_goals cases h

/-- The bytes that are fetched are all that the first one calls for (R106). -/
theorem decode_instrBytes (s : State) : ∃ i, decode s.instrBytes = .ok (i, []) := by
  rw [State.instrBytes, ← List.append_nil (operandBytes _ _)]
  exact ⟨_, decode_cons (operandBytes_length _ _) []⟩

/-- An instruction faults only by its first byte, which is an unassigned one. -/
theorem runInstruction_fault (h : runInstruction s = .fault f) : s.opcode ∈ unassignedOpcodes ∧ f = .unknownOpcode s.opcode := by
  obtain ⟨i, hdec⟩ := decode_instrBytes s
  rw [runInstruction, hdec] at h
  obtain ⟨op, hform, rfl⟩ := execForm_fault (exec_eq_execForm i _ ▸ finish_fault h)
  have hbytes : s.instrBytes = [op] := (eq_encode_of_decode hdec).trans (by rw [encode_of_unassigned hform]; rfl)
  have hop : s.opcode = op := (List.cons.inj hbytes).1
  rw [hop]
  exact ⟨(mem_of_unassigned hform).1, rfl⟩

theorem boundaryStep_fault (hb : s.atBoundary = true) (h : boundaryStep s = .fault f) :
    s.opcode ∈ unassignedOpcodes ∧ f = .unknownOpcode s.opcode := by
  cases hd : s.deliverable
  case true => rw [boundaryStep_of_deliverable hd] at h; cases h
  cases he : s.engine
  case fetch => rw [boundaryStep_of_fetch he hd] at h; exact runInstruction_fault h
  case halted =>
    cases hw : s.wakePending
    case false => rw [boundaryStep_of_halted_idle he hd hw] at h; cases h
    case true =>
      rw [boundaryStep_of_wake he hd hw] at h
      exact runInstruction_fault (s := { s with engine := .fetch }) h
  case stopped => rw [boundaryStep_of_stopped_idle he hd] at h; cases h
  all_goals rw [State.atBoundary, he] at hb; cases hb

/-! ### The faults of a machine cycle -/

theorem fetchCycle_fault (h : fetchCycle s = .fault f) : ∃ op, f = .unknownOpcode op := by
  by_cases hop : s.read8 s.pc = Config.cbByte
  · rw [show fetchCycle s = exec .prefixCb s.afterOpcode from if_pos hop] at h
    cases h
  generalize hr : ({ extended := false, op := s.read8 s.pc } : OpRef) = r
  have hrow : r.row = baseInstr (s.read8 s.pc) 0 0 := by rw [← hr]; rfl
  have hticks : r.row.form.opcodeTicks = 4 := by rw [hrow]; exact if_neg (baseInstr_format _)
  have hc : r.row.form ≠ .cbTable := by rw [hrow]; exact baseInstr_ne_cbTable _ hop
  by_cases h4 : (OpRef.descriptor r).cycles = 4
  · have hsteps : (OpRef.descriptor r).steps = _ := (formSteps_single (h4.trans hticks.symm) hc).1
    rw [fetchCycle_of_single hop hr.symm h4, hsteps, runSingleStep_wholeEffect] at h
    obtain ⟨op, -, hf⟩ := execForm_fault (finish_fault h)
    exact ⟨op, hf⟩
  · rw [fetchCycle_of_work hop hr.symm h4] at h
    cases h

/-- An extended row is no unassigned one. -/
theorem execForm_of_cbOp {x : Form} (hx : x.format = .cbOp) (s : State) : execForm x s = .next (nextForm x s) := by
  rcases execForm_cases x s with ⟨op, rfl, -⟩ | hnext
  · cases hx
  · exact hnext

theorem extCycle_completes (s : State) : ∃ t, extCycle s = .next t := by
  generalize hr : ({ extended := true, op := s.read8 s.pc } : OpRef) = r
  have hformat : r.row.form.format = .cbOp := by rw [← hr]; exact extInstr_format _
  unfold extCycle
  simp only [hr]
  by_cases h8 : (OpRef.descriptor r).cycles = 8
  · have hc : r.row.form ≠ .cbTable := by
      intro h
      rw [h] at hformat
      cases hformat
    have hsteps : (OpRef.descriptor r).steps = _ := (formSteps_single (h8.trans (if_pos hformat).symm) hc).1
    rw [if_pos h8, hsteps, runSingleStep_wholeEffect, execForm_of_cbOp hformat]
    exact ⟨_, rfl⟩
  · rw [if_neg h8]
    exact ⟨_, rfl⟩

/-- Inside a step list there is a micro-step to run, and it does not fault (R136). -/
theorem workCycle_completes (hs : s.Inv) (he : s.engine = .workPending) : ∃ t, workCycle s = .next t := by
  have hi := hs.work_index he
  have hlt : 4 < formCycles s.cur.row.form := by
    refine Nat.lt_of_le_of_lt ?_ (hs.work_row he)
    split <;> omega
  obtain ⟨u, hgo | habort, hm⟩ := microStep_frame hlt (List.getElem_mem hi) s
  · exact ⟨_, workCycle_of_go (List.getElem?_eq_getElem hi) hm.stepIdx hgo⟩
  · exact ⟨_, workCycle_of_abort (List.getElem?_eq_getElem hi) hm.stepIdx habort⟩

/-- Only a Fetch cycle faults, and that at a boundary. -/
theorem stateAction_fault (hs : s.Inv) (h : stateAction s = .fault f) : s.atBoundary = true ∧ ∃ op, f = .unknownOpcode op := by
  cases he : s.engine <;> rw [stateAction, he] at h
  case fetch => exact ⟨by rw [State.atBoundary, he]; rfl, fetchCycle_fault h⟩
  case halted =>
    refine ⟨by rw [State.atBoundary, he]; rfl, ?_⟩
    cases hw : s.wakePending <;> rw [hw] at h
    case false => cases h
    case true => exact fetchCycle_fault h
  case fetchExtendedPrefix =>
    obtain ⟨t, ht⟩ := extCycle_completes s
    rw [ht] at h
    cases h
  case workPending =>
    obtain ⟨t, ht⟩ := workCycle_completes hs he
    rw [ht] at h
    cases h
  all_goals cases h

theorem machineCycle_fault (hs : s.Inv) (h : machineCycle s = .fault f) : s.atBoundary = true ∧ ∃ op, f = .unknownOpcode op := by
  rw [machineCycle, State.interruptCheck] at h
  split at h
  · cases h
  · obtain ⟨hb, hop⟩ := stateAction_fault hs.arrive h
    rw [State.atBoundary, State.arrive_engine] at hb
    exact ⟨hb, hop⟩

end

/-- Settles O28: from a boundary by `boundaryStep_fault`; off a boundary, and in the engine, by `machineCycle_fault`. -/
theorem onlyUnassignedOpcodesFault : Obligations.OnlyUnassignedOpcodesFault := by
  constructor
  · intro s f hs h
    cases hb : s.atBoundary
    case true =>
      rw [step_of_boundary hb] at h
      obtain ⟨hmem, hf⟩ := boundaryStep_fault (by rw [State.atBoundary, State.arrive_engine]; exact hb) h
      refine ⟨s.arrive.opcode, hf, hmem, s.arrive.cycleCount + 4, ?_⟩
      rw [← State.arrive_pc]; rfl
    case false =>
      rw [step_of_not_boundary hb] at h
      obtain ⟨hb', -⟩ := machineCycle_fault hs.nextCycle h
      exact absurd (hb'.symm.trans hb) Bool.noConfusion
  · intro s r hs h
    obtain ⟨-, op, hop⟩ := machineCycle_fault hs h
    cases hop

end Sys2Proof.Machine
end

section
/-! PROOFS. The step-count law (R129, R130): a row that takes more than its opcode bytes has one step for each further machine
cycle, and the one step that can abort is the condition's test. -/

namespace Sys2Proof.Machine

/-! ### As many steps as machine cycles -/

/-- A row of more machine cycles than its opcode bytes take has a step for each of the others (R130). -/
theorem formSteps_length_of_lt {f : Form} (hf : f.opcodeTicks < formCycles f) :
    4 * (formSteps f).length + f.opcodeTicks = formCycles f := by
  cases f
  case nop | stop | halt | di | ei | cbTable | unassigned | ldRegReg | aluReg | incReg | decReg | daa | cpl | scf | ccf | accRot
      | jpHl | rotReg | bitReg | resReg | setReg => exact absurd hf (Nat.lt_irrefl _)
  all_goals rfl

/-- The law for every row but the table-selecting one, whatever its opcode bytes take. -/
theorem formSteps_length {f : Form} (hc : f ≠ .cbTable) :
    formCycles f = f.opcodeTicks ∧ (formSteps f).length = 1
      ∨ formCycles f > f.opcodeTicks ∧ 4 * (formSteps f).length + f.opcodeTicks = formCycles f := by
  rcases Nat.eq_or_lt_of_le (opcodeTicks_le f) with heq | hlt
  · exact .inl ⟨heq.symm, congrArg List.length (formSteps_single heq.symm hc).1⟩
  · exact .inr ⟨hlt, formSteps_length_of_lt hlt⟩

/-! ### The step that aborts -/

/-- A micro-step that never ends the instruction early. -/
def NeverAborts (m : MicroStep) : Prop := ∀ s t, m s ≠ .abort t

theorem neverAborts_wholeEffect (f : Form) : NeverAborts (wholeEffect (execForm f)) := by
  intro s t h
  rw [wholeEffect] at h
  rcases execForm_cases f s with ⟨op, -, hfault⟩ | hnext
  · rw [hfault] at h; cases h
  · rw [hnext] at h; cases h

theorem neverAborts_of_single {f : Form} (hf : formCycles f = f.opcodeTicks) (hc : f ≠ .cbTable) :
    ∀ m ∈ formSteps f, NeverAborts m := by
  rw [(formSteps_single hf hc).1]
  exact List.forall_mem_singleton.2 (neverAborts_wholeEffect f)

/-- Of a row that has no condition no step aborts: each of its steps goes on, or is its whole meaning, which is not refused. -/
theorem formSteps_neverAborts {f : Form} (hf : formCyclesNotTaken f = none) : ∀ m ∈ formSteps f, NeverAborts m := by
  cases f
  case jpCond | jrCond | callCond | retCond => cases hf
  case cbTable => exact List.forall_mem_nil _
  case nop | stop | halt | di | ei | unassigned | ldRegReg | aluReg | incReg | decReg | daa | cpl | scf | ccf | accRot | jpHl
      | rotReg | bitReg | resReg | setReg => exact neverAborts_of_single rfl nofun
  all_goals simp [formSteps, NeverAborts, stepIdle, stepReadZ, stepReadW, stepReadHl, stepPopLo, stepPopHi, stepPushHi, stepJumpWZ]

/-- Among steps that never abort, the one that does is the test. -/
theorem index_eq_of_abort {before after : List MicroStep} {test m : MicroStep} {k : Nat} {s t : State}
    (hbefore : ∀ m ∈ before, NeverAborts m) (hafter : ∀ m ∈ after, NeverAborts m)
    (hm : (before ++ test :: after)[k]? = some m) (h : m s = .abort t) : k = before.length := by
  rcases Nat.lt_trichotomy k before.length with hlt | heq | hgt
  · rw [List.getElem?_append_left hlt] at hm
    exact absurd h (hbefore m (List.mem_of_getElem? hm) s t)
  · exact heq
  · obtain ⟨j, rfl⟩ := Nat.exists_eq_add_of_lt hgt
    rw [List.getElem?_append_right (by omega), Nat.add_assoc, Nat.add_sub_cancel_left, List.getElem?_cons_succ] at hm
    exact absurd h (hafter m (List.mem_of_getElem? hm) s t)

/-- A row whose step `k` aborts costs the opcode byte's machine cycle and those of the steps so far (R129). -/
theorem formCyclesNotTaken_of_abort {f : Form} {k : Nat} {m : MicroStep} {s t : State} (hm : (formSteps f)[k]? = some m)
    (h : m s = .abort t) : formCyclesNotTaken f = some (4 * (k + 1) + 4) := by
  cases f
  case jrCond | retCond =>
    have hk : k = 0 := index_eq_of_abort (before := []) (List.forall_mem_nil _)
      (by simp [NeverAborts, stepPopLo, stepPopHi, stepJumpWZ]) hm h
    subst hk; rfl
  case jpCond | callCond =>
    have hk : k = 1 := index_eq_of_abort (before := [stepReadZ]) (by simp [NeverAborts, stepReadZ])
      (by simp [NeverAborts, stepIdle, stepPushHi, stepJumpWZ]) hm h
    subst hk; rfl
  all_goals exact absurd h (formSteps_neverAborts rfl m (List.mem_of_getElem? hm) s t)

/-- Settles O5: `formSteps_length`, with one opcode byte in a base row and two in an extended one; and
`formCyclesNotTaken_of_abort`. -/
theorem stepCountLaw : Obligations.StepCountLaw := by
  refine ⟨fun op hop => ?_, fun op => ?_, ⟨rfl, rfl⟩, fun r k m s t hm h => formCyclesNotTaken_of_abort hm h⟩
  · have hticks : (baseInstr op 0 0).form.opcodeTicks = 4 := if_neg (baseInstr_format op)
    exact hticks ▸ formSteps_length (baseInstr_ne_cbTable op hop)
  · have hticks : (extInstr op).form.opcodeTicks = 8 := if_pos (extInstr_format op)
    have hc : (extInstr op).form ≠ .cbTable := fun h => nomatch h ▸ extInstr_format op
    exact hticks ▸ formSteps_length hc

end Sys2Proof.Machine
end

section
/-! PROOFS. The boundaries at which no event is due: the dispatch that comes first, the wake, the idle cycle, and the stable
ends (R122, R135, R359 to R361, R391). -/

namespace Sys2Proof.Machine

section
variable {s t : State}

/-! ### What a boundary's tests say -/

theorem State.deliverable_iff : s.deliverable = true ↔ s.ime = true ∧ s.pe ≠ 0 := by simp [State.deliverable]

theorem State.deliverable_of_ime_eq_false (h : s.ime = false) : s.deliverable = false := by simp [State.deliverable, h]

theorem State.deliverable_of_pe_eq_zero (h : s.pe = 0) : s.deliverable = false := by simp [State.deliverable, h]

/-- The wake asks for an enabled source (D9, log 9). -/
theorem State.wakePending_iff : s.wakePending = true ↔ s.pe ≠ 0 := by simp [State.wakePending, Config.wakeNeedsEnable]

theorem State.wakePending_of_pe_eq_zero (h : s.pe = 0) : s.wakePending = false := by
  rw [← Bool.not_eq_true, State.wakePending_iff, not_not]; exact h

theorem State.noEvents_of_nil (h : s.inputs = []) : s.noEvents = true := by rw [State.noEvents, h]; rfl

theorem State.atBoundary_of_engine (h : s.engine = .fetch ∨ s.engine = .halted ∨ s.engine = .stopped) : s.atBoundary = true := by
  rcases h with h | h | h <;> rw [State.atBoundary, h] <;> rfl

/-- Halted with nothing pending and enabled, and nothing to arrive, is a stable end (R391). -/
theorem State.stableEnd_of_halted (he : s.engine = .halted) (hp : s.pe = 0) (hn : s.noEvents = true) : s.stableEnd = true := by
  rw [State.stableEnd, he]
  simp only [State.deliverable_of_pe_eq_zero hp, State.wakePending_of_pe_eq_zero hp, hn]
  rfl

/-- Stopped with IME 0 is a stable end, whatever arrives (R391). -/
theorem State.stableEnd_of_stopped (he : s.engine = .stopped) (hi : s.ime = false) : s.stableEnd = true := by
  rw [State.stableEnd, he]
  simp only [hi]
  rfl

/-! ### Steps of a quiet boundary -/

theorem step_of_quiet_boundary (hb : s.atBoundary = true) (hin : s.inputs = []) : step s = boundaryStep s := by
  rw [step_of_boundary hb, State.arrive_of_nil hin]

/-- Settles O18: `boundaryStep_of_deliverable`. -/
theorem interruptIsTakenBeforeTheFetch : Obligations.InterruptIsTakenBeforeTheFetch := by
  intro s hb hin hi hp
  rw [step_of_quiet_boundary hb hin, boundaryStep_of_deliverable (State.deliverable_iff.2 ⟨hi, hp⟩)]

theorem step_of_quiet_fetch (he : s.engine = .fetch) (hin : s.inputs = []) (hd : s.deliverable = false) :
    step s = runInstruction s := by
  rw [step_of_quiet_boundary (State.atBoundary_of_engine (.inl he)) hin, boundaryStep_of_fetch he hd]

/-- Halted with IME 0 and an enabled source pending runs the instruction at PC in the same step (R361, D8). -/
theorem step_of_halted_wake (he : s.engine = .halted) (hin : s.inputs = []) (hi : s.ime = false) (hp : s.pe ≠ 0) :
    step s = runInstruction { s with engine := .fetch } := by
  rw [step_of_quiet_boundary (State.atBoundary_of_engine (.inr (.inl he))) hin]
  exact boundaryStep_of_wake he (State.deliverable_of_ime_eq_false hi) (State.wakePending_iff.2 hp)

/-- Halted with nothing pending and enabled idles for one machine cycle (R359). -/
theorem step_of_halted_idle (he : s.engine = .halted) (hin : s.inputs = []) (hp : s.pe = 0) : step s = .next s.nextCycle := by
  rw [step_of_quiet_boundary (State.atBoundary_of_engine (.inr (.inl he))) hin]
  exact boundaryStep_of_halted_idle he (State.deliverable_of_pe_eq_zero hp) (State.wakePending_of_pe_eq_zero hp)

/-- Stopped without a deliverable interrupt idles for one machine cycle (R360). -/
theorem step_of_stopped_idle (he : s.engine = .stopped) (hin : s.inputs = []) (hd : s.deliverable = false) :
    step s = .next s.nextCycle := by
  rw [step_of_quiet_boundary (State.atBoundary_of_engine (.inr (.inr he))) hin, boundaryStep_of_stopped_idle he hd]

/-! ### What is no stable end is left -/

/-- With IME 0 and an enabled source pending no meaning halts the engine: HALT sets the halt-bug marker (R306). -/
theorem nextForm_engine_ne_halted (f : Form) (he : s.engine ≠ .halted) (hi : s.ime = false) (hw : s.wakePending = true) :
    (nextForm f s).engine ≠ .halted := by
  by_cases hhalt : f = .halt
  · subst hhalt
    rw [nextForm_halt, if_pos ⟨hi, hw⟩]
    exact he
  by_cases hstop : f = .stop
  · subst hstop; exact EngineState.noConfusion
  by_cases hcb : f = .cbTable
  · subst hcb; exact EngineState.noConfusion
  rw [nextForm_engine ⟨hhalt, hstop, hcb⟩]
  exact he

theorem runInstruction_engine_ne_halted (he : s.engine ≠ .halted) (hi : s.ime = false) (hw : s.wakePending = true)
    (h : runInstruction s = .next t) : t.engine ≠ .halted := by
  obtain ⟨i, hdec⟩ := decode_instrBytes s
  rw [runInstruction, hdec] at h
  obtain ⟨u, hu, rfl⟩ := finish_next h
  rw [State.instructionFinished_engine, exec_next hu, State.afterFetch_eq]
  exact nextForm_engine_ne_halted _ he hi hw

/-- A dispatch leaves Halted and Stopped for Fetch (R349, R359, R360). -/
theorem step_engine_of_deliverable (hb : s.atBoundary = true) (hin : s.inputs = []) (hd : s.deliverable = true)
    (h : step s = .next t) : t.engine = .fetch := by
  rw [step_of_quiet_boundary hb hin, boundaryStep_of_deliverable hd] at h
  cases h
  rfl

theorem step_engine_ne_halted (he : s.engine = .halted) (hin : s.inputs = []) (hs : s.stableEnd = false) (h : step s = .next t) :
    t.engine ≠ .halted := by
  cases hd : s.deliverable
  case true =>
    rw [step_engine_of_deliverable (State.atBoundary_of_engine (.inr (.inl he))) hin hd h]
    exact EngineState.noConfusion
  case false =>
    have hp : s.pe ≠ 0 := fun hp =>
      Bool.noConfusion (hs.symm.trans (State.stableEnd_of_halted he hp (State.noEvents_of_nil hin)))
    have hi : s.ime = false := Bool.eq_false_iff.2 fun hi => Bool.noConfusion (hd.symm.trans (State.deliverable_iff.2 ⟨hi, hp⟩))
    rw [step_of_halted_wake he hin hi hp] at h
    exact runInstruction_engine_ne_halted (s := { s with engine := .fetch }) EngineState.noConfusion hi (State.wakePending_iff.2 hp) h

theorem step_engine_ne_stopped (he : s.engine = .stopped) (hin : s.inputs = []) (hs : s.stableEnd = false)
    (h : step s = .next t) : t.engine ≠ .stopped := by
  have hd : s.deliverable = true := by
    rw [State.stableEnd, he] at hs
    simpa [State.deliverable, State.noEvents_of_nil hin] using hs
  rw [step_engine_of_deliverable (State.atBoundary_of_engine (.inr (.inr he))) hin hd h]
  exact EngineState.noConfusion

/-! ### Stable ends -/

/-- What `k` idle machine cycles leave as it was: the engine's state, IME and PC; and all but the time where no event comes. -/
structure IdledFor (k : Nat) (s t : State) : Prop where
  engine : t.engine = s.engine
  ime : t.ime = s.ime
  pc : t.pc = s.pc
  cycleCount : t.cycleCount = s.cycleCount + 4 * k
  quiet : s.inputs = [] → t = { s with cycleCount := s.cycleCount + 4 * k }

theorem IdledFor.zero (s : State) : IdledFor 0 s s := ⟨rfl, rfl, rfl, rfl, fun _ => rfl⟩

/-- One more idle machine cycle at the front, in which the events due arrive. -/
theorem IdledFor.succ {k : Nat} (h : IdledFor k s.arrive.nextCycle t) : IdledFor (k + 1) s t where
  engine := h.engine.trans s.arrive_engine
  ime := h.ime.trans s.arrive_ime
  pc := h.pc.trans s.arrive_pc
  cycleCount := by
    rw [h.cycleCount, State.nextCycle_cycleCount, State.arrive_cycleCount]
    omega
  quiet hin := by
    have hcount : s.nextCycle.cycleCount + 4 * k = s.cycleCount + 4 * (k + 1) := by
      rw [State.nextCycle_cycleCount]; omega
    rw [State.arrive_of_nil hin] at h
    rw [h.quiet hin, hcount]
    rfl

/-- A stable end is where every number of steps ends (R391). -/
theorem steps_of_stableEnd (h : s.stableEnd = true) (k : Nat) : ∃ t, steps k s = .next t ∧ t.stableEnd = true ∧ IdledFor k s t := by
  induction k generalizing s with
  | zero => exact ⟨s, rfl, h, .zero s⟩
  | succ k ih =>
    obtain ⟨t, hsteps, hend, hidle⟩ := ih (State.stableEnd_arrive h)
    exact ⟨t, (steps_succ k (step_of_stableEnd h)).trans hsteps, hend, hidle.succ⟩

end

/-- Settles O20: the wake, the two idle cycles, the exits, and `steps_of_stableEnd` with `run_of_stableEnd`. -/
theorem haltedAndStopped : Obligations.HaltedAndStopped := by
  refine ⟨fun s hin => ⟨?_, ?_, ?_, ?_⟩, ?_, ?_, fun s hs => ⟨?_, ?_, ?_⟩⟩
  · intro he hi hp
    have hfetch : step { s with engine := .fetch } = runInstruction { s with engine := .fetch } :=
      step_of_quiet_fetch (s := { s with engine := .fetch }) rfl hin (State.deliverable_of_ime_eq_false (s := s) hi)
    rw [step_of_halted_wake he hin hi hp, hfetch]
  · exact fun he hp => step_of_halted_idle he hin hp
  · exact fun he hd => step_of_stopped_idle he hin hd
  · rintro (he | he) hs t h <;> rw [he]
    · exact step_engine_ne_halted he hin hs h
    · exact step_engine_ne_stopped he hin hs h
  · exact fun s he hi => State.stableEnd_of_stopped he hi
  · intro s he hie hin
    have hp : s.pe = 0 := by rw [State.pe, hie]; exact BitVec.zero_and
    exact State.stableEnd_of_halted he hp (State.noEvents_of_nil hin)
  · exact (State.stableEnd_cases hs).imp And.left And.left
  · intro k
    obtain ⟨t, hsteps, hend, hidle⟩ := steps_of_stableEnd hs k
    exact ⟨t, hsteps, hend, hidle.engine, hidle.ime, hidle.pc, hidle.cycleCount, hidle.quiet⟩
  · exact fun stop fuel hpc => run_of_stableEnd hs hpc fuel

end Sys2Proof.Machine
end

section
/-! PROOFS. The 8-bit loads and stores: each takes its address from the given state, and reads or writes one machine cycle on
(R160 to R178). -/

namespace Sys2Proof.Machine

theorem State.hl_write8 (s : State) (a : Word) (v : Byte) : (s.write8 a v).hl = s.hl :=
  congrArg₂ joinBytes (s.write8_h a v) (s.write8_l a v)

/-- After a store through `(HL+)` or `(HL-)` HL moves from where it was before the store (R175, R176). -/
theorem State.indAfter_write8 (s : State) (a : Word) (v : Byte) :
    (s.write8 a v).indAfter .hlInc = (s.write8 a v).setHl (s.hl + 1)
      ∧ (s.write8 a v).indAfter .hlDec = (s.write8 a v).setHl (s.hl - 1) := by
  rw [← s.hl_write8 a v]
  exact ⟨rfl, rfl⟩

/-- Settles O35: what `execForm` says of each load, the high page's address by `highPage_eq`. -/
theorem loadsIntoARegister : Obligations.LoadsIntoARegister := by
  intro i s s1
  simp only [← highPage_eq]
  exact ⟨fun _ _ h => exec_of_form h s, fun _ _ h => exec_of_form h s, fun _ h => exec_of_form h s,
    fun _ h => exec_of_form h s, fun _ h => exec_of_form h s, fun h => exec_of_form h s⟩

/-- Settles O36: what `execForm` says of each store, the high page's address by `highPage_eq`. -/
theorem storesOfAByte : Obligations.StoresOfAByte := by
  intro i s s1
  simp only [← highPage_eq]
  exact ⟨fun _ h => exec_of_form h s, fun _ h => exec_of_form h s, fun _ h => exec_of_form h s,
    fun _ h => exec_of_form h s, fun h => exec_of_form h s⟩

/-- Settles O37: writing A leaves HL as it is by definition; a store, which may be to a controller register, by
`State.indAfter_write8`. -/
theorem indirectLoadsAndStores : Obligations.IndirectLoadsAndStores := by
  intro i s s1
  obtain ⟨hinc, hdec⟩ := s1.indAfter_write8 s.hl s.a
  exact ⟨fun h => exec_of_form h s, fun h => exec_of_form h s, fun h => exec_of_form h s, fun h => exec_of_form h s,
    fun h => exec_of_form h s, fun h => exec_of_form h s,
    fun h => (exec_of_form h s).trans (congrArg Host.Outcome.next hinc),
    fun h => (exec_of_form h s).trans (congrArg Host.Outcome.next hdec)⟩

end Sys2Proof.Machine
end

section
/-! PROOFS. The 16-bit loads, the stack and the returns (R190 to R197, R244, R288 to R290): what a push
and a pop make of a state is `State.push16_eq` and `State.pop16_eq`. -/

namespace Sys2Proof.Machine

/-! ### Loads -/

/-- A machine cycle after a store that took one itself. -/
theorem State.nextCycle_write8_nextCycle (s : State) (a : Word) (v : Byte) :
    (s.nextCycle.write8 a v).nextCycle = { s.nextCycle.write8 a v with cycleCount := s.cycleCount + 8 } := by
  rw [nextCycle_eq (s.nextCycle.write8 a v), State.write8_cycleCount]
  rfl

/-- Settles O38: LD (a16),SP by `State.nextCycle_write8_nextCycle`, the others by what `execForm` says of them. -/
theorem sixteenBitLoads : Obligations.SixteenBitLoads := by
  refine fun i s => ⟨fun rr n h => exec_of_form h s, fun a h => ?_, fun h => exec_of_form h s⟩
  rw [exec_of_form h]
  exact congrArg (fun t => Host.Outcome.next (t.write8 (a + 1) (hiByte s.sp))) (s.nextCycle_write8_nextCycle a (loByte s.sp))

/-! ### The flags of SP plus a displacement -/

theorem loByte_toNat (v : Word) : (loByte v).toNat = v.toNat % 256 := BitVec.extractLsb'_toNat 0 8 v

/-- Where F is packed from the flags of `addSpe`, H and C are the carries of an unsigned addition to SP's low byte (R244, C2). -/
theorem FlagsAre.of_addSpe {t : State} {sp : Word} {e : Byte} (h : t.f = (addSpe sp e).2.pack) :
    FlagsAre t false false (decide (sp.toNat % 16 + e.toNat % 16 > 15)) (decide (sp.toNat % 256 + e.toNat > 255)) := by
  have hnibble : lowNibble (loByte sp) = sp.toNat % 16 := by
    rw [lowNibble, loByte_toNat]
    exact Nat.mod_mod_of_dvd _ (by decide)
  refine .of_pack h rfl rfl ?_ ?_
  · rw [addSpe, hnibble]; rfl
  · rw [addSpe, loByte_toNat]

/-- Settles O49: the sum by definition, the flags by `FlagsAre.of_addSpe`. -/
theorem stackPointerPlusDisplacement : Obligations.StackPointerPlusDisplacement :=
  fun _ s _ => ⟨fun h => ⟨_, exec_of_form h s, rfl, .of_addSpe rfl⟩,
    fun h => ⟨_, exec_of_form h s, rfl, State.hl_setHl _ _, .of_addSpe rfl⟩⟩

/-! ### The stack -/

/-- Settles O39: a push after an internal cycle is `State.push16_eq`. -/
theorem pushStoresHighThenLow : Obligations.PushStoresHighThenLow := by
  intro i s rr h
  rw [exec_of_form h]
  exact congrArg Host.Outcome.next (s.push16_eq (s.stackPair rr))

/-- What POP AF leaves in A and F of the word `hi :: lo` (R197). -/
theorem State.setStackPair_af_joinBytes (s : State) (hi lo : Byte) :
    (s.setStackPair .af (joinBytes hi lo)).a = hi ∧ (s.setStackPair .af (joinBytes hi lo)).readF = lo &&& 0xF0 := by
  refine ⟨hiByte_joinBytes hi lo, (and_F0_and_F0 _).trans ?_⟩
  rw [loByte_joinBytes]

/-- Settles O40: the pop is `State.pop16_eq`; what POP AF leaves in A and F, `State.setStackPair_af_joinBytes`. -/
theorem popLoadsLowThenHigh : Obligations.PopLoadsLowThenHigh := by
  intro i s rr h s1 s2 v
  obtain ⟨hnext, hvalue⟩ := s.pop16_eq
  have hexec : exec i s = .next (State.setStackPair rr v { s2 with sp := s.sp + 2 }) := by
    rw [exec_of_form h]
    exact congrArg₂ (fun t x => Host.Outcome.next (State.setStackPair rr x t)) hnext hvalue
  refine ⟨hexec, ?_⟩
  rintro rfl
  exact ⟨_, hexec, State.setStackPair_af_joinBytes _ _ _⟩

/-! ### Returns -/

/-- A pop and the machine cycle in which its word goes to PC (R288 to R290). -/
theorem State.pop16_nextCycle_eq (s : State) :
    (let s1 := State.quirk .pop1 s.sp { s with cycleCount := s.cycleCount + 4 }
      let s2 := State.quirk .pop2 (s.sp + 1) { s1 with sp := s.sp + 1, cycleCount := s.cycleCount + 8 }
      s.pop16Next.nextCycle = { s2 with sp := s.sp + 2, cycleCount := s.cycleCount + 12 }
        ∧ s.pop16Value = s2.read8 (s.sp + 1) ++ s1.read8 s.sp) := by
  obtain ⟨hnext, hvalue⟩ := s.pop16_eq
  refine ⟨?_, hvalue⟩
  rw [nextCycle_eq s.pop16Next, State.pop16Next_cycleCount, hnext]

/-- Settles O55: `State.pop16_nextCycle_eq`, and for RET cc the same from a machine cycle later. -/
theorem returns : Obligations.Returns := by
  intro i s popped n
  obtain ⟨hnext, hvalue⟩ := s.pop16_nextCycle_eq
  obtain ⟨hnext', hvalue'⟩ := s.nextCycle.pop16_nextCycle_eq
  refine ⟨fun h => ?_, fun cc h => ?_, fun h => ?_⟩
  · rw [exec_of_form h]
    exact congrArg₂ (fun t v => Host.Outcome.next { t with pc := v }) hnext hvalue
  · rw [exec_of_form h]
    cases hcc : s.cond cc
    case true =>
      rw [execForm, retCond, if_pos hcc]
      exact congrArg₂ (fun t v => Host.Outcome.next { t with pc := v }) hnext' hvalue'
    case false =>
      rw [execForm, retCond, hcc]
      rfl
  · rw [exec_of_form h]
    exact congrArg₂ (fun t v => Host.Outcome.next (t.returnFromInterrupt v)) hnext hvalue

end Sys2Proof.Machine
end

section
/-! PROOFS. 8-bit arithmetic and logic: results and flags as the rules state them (R205 to R221), and decimal addition with
DAA. -/

namespace Sys2Proof.Machine

/-! ### Operations on A and an operand -/

/-- The three forms of R205 differ in the time of the operation only. -/
theorem AluOperand.eq_at_time {i : Instr} {s s0 : State} {op : AluOp} {b : Byte} (h : AluOperand i s op b s0) :
    ∃ n, s0 = { s with cycleCount := n } := by
  rcases h with ⟨_, -, -, h⟩ | ⟨-, -, h⟩ | ⟨-, h⟩ <;> exact ⟨_, h⟩

/-- Settles O42: `add8` is exact addition, with the flag C as the carry-in of ADC. -/
theorem addResults : Obligations.AddResults := by
  intro i s s0 op b hop h c
  obtain ⟨hexec, -, -⟩ := h.exec_eq
  obtain ⟨n, rfl⟩ := h.eq_at_time
  rcases hop with rfl | rfl
  all_goals exact ⟨_, hexec, rfl, BitVec.toNat_ofNat _ 8, .of_pack rfl rfl rfl rfl rfl⟩

/-- The byte of a difference of two bytes with a borrow is zero where the difference is, or where it wraps to zero (R208, R209). -/
theorem ofInt_sub_eq_zero_iff (a b : Byte) (cin : Bool) :
    BitVec.ofInt 8 ((a.toNat : Int) - b.toNat - cin.toNat) = 0
      ↔ (a.toNat : Int) - b.toNat - cin.toNat = 0 ∨ (a.toNat : Int) - b.toNat - cin.toNat = -256 := by
  have hcin := cin.toNat_le
  rw [← BitVec.toNat_inj, BitVec.toNat_ofInt, show (0 : Byte).toNat = 0 from rfl]
  omega

/-- Where F is packed from the flags of `sub8`, they are those of the exact difference (R208, R209, R213). -/
theorem FlagsAre.of_sub8 {t : State} {a b : Byte} {cin : Bool} (h : t.f = (sub8 a b cin).2.pack) :
    FlagsAre t
      (decide ((a.toNat : Int) - b.toNat - cin.toNat = 0 ∨ (a.toNat : Int) - b.toNat - cin.toNat = -256)) true
      (decide (a.toNat % 16 < b.toNat % 16 + cin.toNat)) (decide (a.toNat < b.toNat + cin.toNat)) :=
  .of_pack h (decide_eq_decide.2 (ofInt_sub_eq_zero_iff a b cin)) rfl rfl rfl

/-- Settles O43: `sub8` is exact subtraction, with the flag C as the borrow-in of SBC; CP writes its flags only. -/
theorem subtractResults : Obligations.SubtractResults := by
  intro i s s0 op b hop h c
  obtain ⟨hexec, -, -⟩ := h.exec_eq
  obtain ⟨n, rfl⟩ := h.eq_at_time
  rcases hop with rfl | rfl | rfl
  case inr.inl => exact ⟨_, hexec, rfl, rfl, .of_sub8 (cin := s.flagC) rfl⟩
  all_goals exact ⟨_, hexec, rfl, rfl, .of_sub8 (cin := false) rfl⟩

/-- Settles O44: what `and8`, `xor8` and `or8` say. -/
theorem logicResults : Obligations.LogicResults := by
  intro i s s0 op b hop h
  obtain ⟨hexec, -, -⟩ := h.exec_eq
  obtain ⟨n, rfl⟩ := h.eq_at_time
  rcases hop with rfl | rfl | rfl
  all_goals exact ⟨_, hexec, rfl, rfl, .of_pack rfl rfl rfl rfl rfl⟩

/-! ### Increments and decrements -/

theorem and_0F_toNat (v : Byte) : (v &&& 0xF).toNat = lowNibble v := Nat.and_two_pow_sub_one_eq_mod v.toNat 4

/-- Half-carry and half-borrow as tests of the masked byte (R214 to R217). -/
theorem lowNibble_eq_iff (v : Byte) {k : Byte} : lowNibble v = k.toNat ↔ v &&& 0xF = k := by
  rw [← and_0F_toNat, BitVec.toNat_inj]

/-- Where F is packed from the flags of `inc8` (R214, R215). -/
theorem FlagsAre.of_inc8 {t : State} {v : Byte} {c : Bool} (h : t.f = (inc8 v c).2.pack) :
    FlagsAre t (decide (v = 0xFF)) false (decide (v &&& 0xF = 0xF)) c :=
  .of_pack h (decide_eq_decide.2 (by bv_omega)) rfl (decide_eq_decide.2 (lowNibble_eq_iff v (k := 0xF))) rfl

/-- Where F is packed from the flags of `dec8` (R216, R217). -/
theorem FlagsAre.of_dec8 {t : State} {v : Byte} {c : Bool} (h : t.f = (dec8 v c).2.pack) :
    FlagsAre t (decide (v = 1)) true (decide (v &&& 0xF = 0)) c :=
  .of_pack h (decide_eq_decide.2 sub_eq_zero) rfl (decide_eq_decide.2 (lowNibble_eq_iff v (k := 0))) rfl

/-- Settles O45: each is its operation's next state, with the flags of `FlagsAre.of_inc8` or `FlagsAre.of_dec8`. -/
theorem incrementAndDecrement : Obligations.IncrementAndDecrement := by
  intro i s s2 v
  exact ⟨fun _ h => ⟨_, exec_of_form h s, rfl, .of_inc8 rfl⟩, fun _ h => ⟨_, exec_of_form h s, rfl, .of_dec8 rfl⟩,
    fun h => ⟨_, exec_of_form h s, rfl, .of_inc8 rfl⟩, fun h => ⟨_, exec_of_form h s, rfl, .of_dec8 rfl⟩⟩

/-! ### DAA, CPL, SCF and CCF -/

theorem State.flags_setFlags (s : State) (x : Flags) : (s.setFlags x).flags = x := by
  obtain ⟨hz, hn, hh, hc, -⟩ := State.flags_of_f (s := s.setFlags x) rfl
  rw [State.flags, hz, hn, hh, hc]

/-- N and H written one after the other, as CPL, SCF and CCF do (R219 to R221). -/
theorem State.setFlagH_setFlagN (s : State) (n h : Bool) :
    (s.setFlagN n).setFlagH h = s.setFlags { s.flags with n := n, h := h } := by
  rw [State.setFlagH, State.setFlagN, State.flags_setFlags]
  rfl

/-- C written after N and H, as SCF and CCF do (R220, R221). -/
theorem State.setFlagC_setFlagH_setFlagN (s : State) (n h c : Bool) :
    ((s.setFlagN n).setFlagH h).setFlagC c = s.setFlags { s.flags with n := n, h := h, c := c } := by
  rw [State.setFlagH_setFlagN, State.setFlagC, State.flags_setFlags]
  rfl

/-- The two parts of DAA's correction have no bit in common, so that their disjunction is their sum (R218). -/
theorem daaCorrection_eq_add (a : Byte) (x : Flags) :
    daaCorrection a x = (if x.h || (!x.n && decide (lowNibble a > 9)) then 6 else 0)
      + (if x.c || (!x.n && decide (a.toNat > 0x99)) then 0x60 else 0) := by
  rw [daaCorrection]
  split <;> split <;> rfl

/-- Settles O46: DAA's correction by `daaCorrection_eq_add`; the others write their flags at once. -/
theorem accumulatorAndCarryInstructions : Obligations.AccumulatorAndCarryInstructions := by
  intro s low high corr
  refine ⟨⟨_, rfl, rfl, ?_, .of_pack rfl rfl rfl rfl (Bool.or_self_left s.flagC _).symm⟩,
    ⟨_, congrArg Host.Outcome.next ((s.setReg .a (~~~ s.a)).setFlagH_setFlagN true true), rfl, rfl,
      .of_pack rfl rfl rfl rfl rfl⟩,
    ⟨_, congrArg Host.Outcome.next (s.setFlagC_setFlagH_setFlagN false false true), rfl, .of_pack rfl rfl rfl rfl rfl⟩,
    ⟨_, congrArg Host.Outcome.next (s.setFlagC_setFlagH_setFlagN false false (!s.flagC)), rfl,
      .of_pack rfl rfl rfl rfl rfl⟩⟩
  have hcorr : daaCorrection s.a s.flags = corr := daaCorrection_eq_add s.a s.flags
  rw [← hcorr]
  rfl

/-! ### Decimal addition -/

/-- The packed decimal of a number below 100: a digit in each half of the byte. -/
def packed (n : Nat) : Nat := n / 10 * 16 + n % 10

theorem toNat_ofNat_packed {n : Nat} (h : n < 100) : (BitVec.ofNat 8 (packed n)).toNat = packed n := by
  rw [BitVec.toNat_ofNat, packed]
  omega

/-- A sum of packed decimals has a half-carry, or a low digit above 9, where the low digits carry (R218). -/
theorem low_digits_carry_iff (x y : Nat) :
    (packed x % 16 + packed y % 16 > 15 ∨ (packed x + packed y) % 256 % 16 > 9) ↔ x % 10 + y % 10 ≥ 10 := by
  simp only [packed]
  omega

/-- A sum of packed decimals has a carry, or is above 0x99, where the numbers reach 100 (R218). -/
theorem decimal_carry_iff (x y : Nat) :
    (packed x + packed y > 255 ∨ (packed x + packed y) % 256 > 0x99) ↔ x + y ≥ 100 := by
  have habove : packed x + packed y > 255 ∨ (packed x + packed y) % 256 > 0x99 ↔ packed x + packed y > 0x99 := by omega
  rw [habove, packed, packed]
  omega

/-- Six more for each decimal carry makes the sum of packed decimals the packed decimal of the sum (R218). -/
theorem packed_add_corrections {x y : Nat} (hx : x < 100) (hy : y < 100) :
    BitVec.ofNat 8 (packed x + packed y)
        + ((if x % 10 + y % 10 ≥ 10 then 6 else 0) + if x + y ≥ 100 then 0x60 else 0)
      = BitVec.ofNat 8 ((x + y) % 100 / 10 * 16 + (x + y) % 10) := by
  simp only [packed]
  split <;> split <;> bv_omega

/-- Settles O47: after ADD, by `addResults`, the two tests of DAA's correction are the decimal carries; the corrected sum is
`packed_add_corrections`. -/
theorem decimalAdjustAfterAdd : Obligations.DecimalAdjustAfterAdd := by
  intro s x y hx hy ha hb
  obtain ⟨t, ht, -, hta, -, htn, hth, htc, -⟩ :=
    addResults .addAB s s .add s.b (.inl rfl) (.inl ⟨.b, rfl, rfl, rfl⟩)
  obtain ⟨⟨u, hu, -, hua, -, -, -, huc, -⟩, -⟩ := accumulatorAndCarryInstructions t
  have han : s.a.toNat = packed x := (congrArg BitVec.toNat ha).trans (toNat_ofNat_packed hx)
  have hbn : s.b.toNat = packed y := (congrArg BitVec.toNat hb).trans (toNat_ofNat_packed hy)
  simp only [reduceCtorEq, if_false, Nat.add_zero, han, hbn] at hta hth htc
  have hlow : (t.flagH || (!t.flagN && decide (t.a.toNat % 16 > 9))) = decide (x % 10 + y % 10 ≥ 10) := by
    rw [hth, htn, hta, Bool.not_false, Bool.true_and, ← Bool.decide_or, decide_eq_decide]
    exact low_digits_carry_iff x y
  have hhigh : (t.flagC || (!t.flagN && decide (t.a.toNat > 0x99))) = decide (x + y ≥ 100) := by
    rw [htc, htn, hta, Bool.not_false, Bool.true_and, ← Bool.decide_or, decide_eq_decide]
    exact decimal_carry_iff x y
  refine ⟨t, u, ht, hu, ?_, ?_⟩
  · rw [hua, hlow, hhigh, htn]
    have hsum : t.a = BitVec.ofNat 8 (packed x + packed y) := BitVec.eq_of_toNat_eq hta
    simpa [hsum] using packed_add_corrections hx hy
  · rw [huc, ← Bool.or_assoc, Bool.or_self]
    exact hhigh

end Sys2Proof.Machine
end

section
/-! PROOFS. 16-bit arithmetic: ADD HL,rr, INC rr and DEC rr (R240 to R242). -/

namespace Sys2Proof.Machine

/-- The sum of `addHl16` wraps (R240). -/
theorem addHl16_fst (hl rr : Word) (z : Bool) : (addHl16 hl rr z).1 = hl + rr := (BitVec.add_def hl rr).symm

/-- Where F is packed from the flags of `addHl16`, H and C are the carries out of bits 11 and 15, and Z is the one given
(R240). -/
theorem FlagsAre.of_addHl16 {t : State} {hl rr : Word} {z : Bool} (h : t.f = (addHl16 hl rr z).2.pack) :
    FlagsAre t z false (decide (hl.toNat % 4096 + rr.toNat % 4096 > 4095)) (decide (hl.toNat + rr.toNat > 65535)) :=
  .of_pack h rfl rfl rfl rfl

/-- Settles O48: ADD HL,rr by `addHl16_fst` and `FlagsAre.of_addHl16`; INC rr and DEC rr are what `execForm` says of them. -/
theorem sixteenBitArithmetic : Obligations.SixteenBitArithmetic := by
  intro i s rr s1
  refine ⟨fun h => ⟨_, exec_of_form h s, rfl, ?_, .of_addHl16 rfl⟩, fun h => exec_of_form h s, fun h => exec_of_form h s⟩
  calc _ = (addHl16 s.hl (s.pair rr) s.flagZ).1 := State.hl_setHl _ _
    _ = s.hl + s.pair rr := addHl16_fst _ _ _

end Sys2Proof.Machine
end

section
/-! PROOFS. Rotates, shifts and bit instructions: a shift or rotation of the whole byte joins the same parts of it as the
model's `rotValue` (R250 to R265). -/

namespace Sys2Proof.Machine

/-! ### Shifts and rotations of the whole byte -/

theorem append_zero_or_zero_append {m n : Nat} (x : BitVec m) (y : BitVec n) : (x ++ 0#n ||| 0#m ++ y) = x ++ y := by
  rw [BitVec.or_append, BitVec.or_zero, BitVec.zero_or]

theorem shiftLeft_one_eq_append (v : Byte) : v <<< 1 = v.extractLsb' 0 7 ++ (0 : BitVec 1) :=
  BitVec.shiftLeft_eq_concat_of_lt (by decide)

theorem ushiftRight_one_eq_append (v : Byte) : v >>> 1 = (0 : BitVec 1) ++ v.extractLsb' 1 7 :=
  BitVec.ushiftRight_eq_extractLsb'_of_lt (by decide)

/-- The sign stays, and is copied into the bit below it (R260). -/
theorem sshiftRight_one_eq_append (v : Byte) : v.sshiftRight 1 = v.extractLsb' 7 1 ++ v.extractLsb' 1 7 := by
  ext i hi
  rw [BitVec.getElem_sshiftRight, BitVec.getElem_append]
  split
  · rw [dif_pos (by omega), BitVec.getElem_extractLsb']
    rfl
  · rw [dif_neg (by omega), BitVec.getElem_extractLsb', show 7 + (i - 7) = 7 by omega]
    rfl

/-- The upper `k` bits and the rest change places (R255; with `k = 4`, R261). -/
theorem rotateLeft_eq_append (v : Byte) {k : Nat} (h : k < 8) :
    v.rotateLeft k = (v.extractLsb' 0 (8 - k) ++ v.extractLsb' (8 - k) k).cast (by omega) := by
  ext i hi
  simp only [BitVec.getElem_rotateLeft, BitVec.getElem_cast, BitVec.getElem_append, Nat.mod_eq_of_lt h,
    BitVec.getElem_extractLsb', Nat.zero_add]
  split <;> rfl

/-- One place to the right is seven to the left (R256). -/
theorem rotateRight_one_eq_append (v : Byte) : v.rotateRight 1 = v.extractLsb' 0 1 ++ v.extractLsb' 1 7 :=
  (BitVec.or_comm _ _).trans (rotateLeft_eq_append v (by decide : 7 < 8))

/-- A shift to the left leaves bit 0 free for the carry flag (R257). -/
theorem shiftLeft_or_carry_eq_append (v : Byte) (c : Bool) :
    v <<< 1 ||| (BitVec.ofBool c).setWidth 8 = v.extractLsb' 0 7 ++ BitVec.ofBool c := by
  have hc : (BitVec.ofBool c).setWidth 8 = 0#7 ++ BitVec.ofBool c := BitVec.setWidth_eq_append (by decide)
  rw [shiftLeft_one_eq_append, hc]
  exact append_zero_or_zero_append _ _

/-- A shift to the right leaves bit 7 free for the carry flag (R258). -/
theorem ushiftRight_or_carry_eq_append (v : Byte) (c : Bool) :
    v >>> 1 ||| (BitVec.ofBool c).setWidth 8 <<< 7 = BitVec.ofBool c ++ v.extractLsb' 1 7 := by
  have hc : (BitVec.ofBool c).setWidth 8 <<< 7 = BitVec.ofBool c ++ 0#7 := by cases c <;> rfl
  rw [ushiftRight_one_eq_append, hc, BitVec.or_comm]
  exact append_zero_or_zero_append _ _

/-! ### Rotates and shifts -/

/-- Where F is packed from the flags of `rot8` (R255 to R262). -/
theorem FlagsAre.of_rot8 {t : State} {op : RotOp} {v : Byte} {c : Bool} (h : t.f = (rot8 op v c).2.pack) :
    FlagsAre t (decide (rotValue op v c = 0)) false false (rotCarry op v) := .of_pack h rfl rfl rfl rfl

/-- Where F is packed from the flags of `accRot8` (R250 to R253). -/
theorem FlagsAre.of_accRot8 {t : State} {op : AccRotOp} {v : Byte} {c : Bool} (h : t.f = (accRot8 op v c).2.pack) :
    FlagsAre t false false false (rotCarry (accRotOp op) v) := .of_pack h rfl rfl rfl rfl

/-- Settles O50: the four values are joined parts of A; the flags by `FlagsAre.of_accRot8`. -/
theorem accumulatorRotates : Obligations.AccumulatorRotates := by
  intro s
  rw [rotateLeft_eq_append s.a (by decide), rotateRight_one_eq_append, shiftLeft_or_carry_eq_append,
    ushiftRight_or_carry_eq_append]
  exact ⟨⟨_, rfl, rfl, .of_accRot8 (op := .rlca) rfl⟩, ⟨_, rfl, rfl, .of_accRot8 (op := .rla) rfl⟩,
    ⟨_, rfl, rfl, .of_accRot8 (op := .rrca) rfl⟩, ⟨_, rfl, rfl, .of_accRot8 (op := .rra) rfl⟩⟩

/-- Settles O51: the result and carry stated are `rotValue` and `rotCarry`, one operation at a time; the flags by
`FlagsAre.of_rot8`. -/
theorem rotatesAndShifts : Obligations.RotatesAndShifts := by
  intro i s op cin out s2 m
  have hout (v : Byte) : out v = (rotValue op v s.flagC, rotCarry op v) := by
    cases op
    case rlc => exact Prod.ext (rotateLeft_eq_append v (by decide)) rfl
    case rrc => exact Prod.ext (rotateRight_one_eq_append v) rfl
    case rl => exact Prod.ext (shiftLeft_or_carry_eq_append v s.flagC) rfl
    case rr => exact Prod.ext (ushiftRight_or_carry_eq_append v s.flagC) rfl
    case sla => exact Prod.ext (shiftLeft_one_eq_append v) rfl
    case sra => exact Prod.ext (sshiftRight_one_eq_append v) rfl
    case swap => exact Prod.ext (rotateLeft_eq_append v (by decide)) rfl
    case srl => exact Prod.ext (ushiftRight_one_eq_append v) rfl
  simp only [hout]
  exact ⟨fun _ h => ⟨_, exec_of_form h s, rfl, .of_rot8 rfl⟩, fun h => ⟨_, exec_of_form h s, rfl, .of_rot8 rfl⟩⟩

/-! ### BIT, RES and SET -/

/-- Where F is packed from the flags of `bitFlags` (R263). -/
theorem FlagsAre.of_bitFlags {t : State} {b : BitVec 3} {v : Byte} {c : Bool} (h : t.f = (bitFlags b v c).pack) :
    FlagsAre t (!v.getLsbD b.toNat) false true c := .of_pack h rfl rfl rfl rfl

/-- The mask of RES and SET has the bit `b` and no other (R264, R265). -/
theorem getLsbD_one_shiftLeft (b : BitVec 3) (k : Nat) : ((1 : Byte) <<< b.toNat).getLsbD k = decide (k = b.toNat) := by
  have hb : b.toNat < 8 := b.isLt
  have h := BitVec.getLsbD_twoPow (w := 8) b.toNat k
  rwa [decide_eq_true hb, Bool.true_and, decide_eq_decide.2 eq_comm] at h

/-- Beyond the byte, where the complemented mask has no bit, `v` has none either (R264). -/
theorem getLsbD_resBit (b : BitVec 3) (v : Byte) (k : Nat) :
    (resBit b v).getLsbD k = (v.getLsbD k && decide (k ≠ b.toNat)) := by
  rw [resBit, BitVec.getLsbD_and, BitVec.getLsbD_not, getLsbD_one_shiftLeft]
  by_cases hk : k < 8
  · simp [hk]
  · simp [BitVec.getLsbD_of_ge v k (by omega)]

theorem getLsbD_setBit (b : BitVec 3) (v : Byte) (k : Nat) :
    (setBit b v).getLsbD k = (v.getLsbD k || decide (k = b.toNat)) := by
  rw [setBit, BitVec.getLsbD_or, getLsbD_one_shiftLeft]

/-- Settles O52: BIT's flags by `FlagsAre.of_bitFlags`, the bits of what RES and SET write by `getLsbD_resBit` and
`getLsbD_setBit`. -/
theorem bitInstructions : Obligations.BitInstructions := by
  intro i s b s1 s2 m
  exact ⟨fun _ h => ⟨_, exec_of_form h s, rfl, .of_bitFlags rfl⟩, fun h => ⟨_, exec_of_form h s, rfl, .of_bitFlags rfl⟩,
    fun _ h => ⟨_, exec_of_form h s, getLsbD_resBit b _⟩, fun _ h => ⟨_, exec_of_form h s, getLsbD_setBit b _⟩,
    fun h => ⟨_, exec_of_form h s, getLsbD_resBit b m⟩, fun h => ⟨_, exec_of_form h s, getLsbD_setBit b m⟩⟩

end Sys2Proof.Machine
end

section
/-! PROOFS. The jumps, the calls and RST (R280 to R287, R291): a call is a push of PC, by `State.push16_eq`, and a jump. -/

namespace Sys2Proof.Machine

/-- An assigned instruction answers the next state of its operation. -/
theorem exec_of_form_eq_next {i : Instr} {f : Form} (h : i.form = f) (hf : ∀ op, f ≠ .unassigned op) (s : State) :
    exec i s = .next (nextForm f s) :=
  (exec_of_form h s).trans ((execForm_cases f s).resolve_left fun ⟨op, hop, _⟩ => hf op hop)

/-- Settles O53: what `execForm` says of each jump; for JP cc and JR cc, `nextForm_jpCond` and `nextForm_jrCond`. -/
theorem jumps : Obligations.Jumps := by
  intro i s s1
  exact ⟨fun _ h => exec_of_form h s, fun h => exec_of_form h s, fun _ h => exec_of_form h s,
    fun cc a h => (exec_of_form_eq_next h nofun s).trans (congrArg Host.Outcome.next (nextForm_jpCond s cc a)),
    fun cc e h => (exec_of_form_eq_next h nofun s).trans (congrArg Host.Outcome.next (nextForm_jrCond s cc e)),
    rfl, rfl, rfl, rfl⟩

/-- A call, cycle by cycle (R286, R291). -/
theorem State.callTo_eq (s : State) (target : Word) : s.callTo target =
    (let s1 := State.quirk .push1 s.sp { s with cycleCount := s.cycleCount + 8 }
    let s2 := State.write8 { s1 with sp := s.sp - 1 } (s.sp - 1) (hiByte s.pc)
    let s3 := State.quirk .push2 (s.sp - 1) { s2 with cycleCount := s.cycleCount + 12 }
    { State.write8 { s3 with sp := s.sp - 2 } (s.sp - 2) (loByte s.pc) with pc := target }) :=
  congrArg (fun t : State => { t with pc := target }) (s.push16_eq s.pc)

/-- Settles O54: each is `State.callTo_eq` where it is taken; the target of RST by `rstTarget_eq`. -/
theorem callsAndRestarts : Obligations.CallsAndRestarts := by
  intro i s s1 s2 s3 pushed
  have hcall (a : Word) : s.callTo a = { pushed with pc := a } := s.callTo_eq a
  refine ⟨fun a h => ?_, fun cc a h => ?_, fun y h => ?_⟩
  · rw [exec_of_form_eq_next h nofun, nextForm_call, hcall]
  · rw [exec_of_form_eq_next h nofun, nextForm_callCond, hcall]
  · rw [exec_of_form_eq_next h nofun, nextForm_rst, hcall, rstTarget_eq]

end Sys2Proof.Machine
end

section
/-! PROOFS. The interrupt controller: its registers, a request, the deferred enable and the choice of a source (R334 to R342). -/

namespace Sys2Proof.Machine

/-! ### The registers -/

theorem append_seven_eq_or : ∀ x : BitVec 5, (7 : BitVec 3) ++ x = 0xE0 ||| x.setWidth 8 := by decide

theorem extract_high_setWidth : ∀ x : BitVec 5, (x.setWidth 8).extractLsb' 5 3 = 0 := by decide

/-- Settles O10: the three bits a read of IF puts before IF are ones. -/
theorem pendingRegisterAccessors : Obligations.PendingRegisterAccessors := fun s _ => ⟨append_seven_eq_or s.ifr, rfl⟩

/-- Settles O11: the low five bits of a read are IE's own, and the next check meets IF with the mask just stored. -/
theorem enableRegisterAccessors : Obligations.EnableRegisterAccessors := fun s v =>
  ⟨extract_append _ s.ie, fun href => (State.readIE_reference href).symm ▸ extract_high_setWidth s.ie, rfl,
    State.deliverable_iff (s := s.writeIE v)⟩

/-! ### A request -/

section
variable {s : State}

theorem State.requestInterrupt_idem (k : Irq) : (s.requestInterrupt k).requestInterrupt k = s.requestInterrupt k := by
  simp only [State.requestInterrupt, BitVec.or_assoc, BitVec.or_self]

theorem State.pe_ne_zero_of_getLsbD {k : Irq} (he : s.ie.getLsbD k.val = true) (hf : s.ifr.getLsbD k.val = true) : s.pe ≠ 0 :=
  ne_zero_of_getLsbD (j := k.val) (by rw [State.pe, BitVec.getLsbD_and, he, hf]; rfl)

theorem State.deliverable_requestInterrupt {k : Irq} (hi : s.ime = true) (he : s.ie.getLsbD k.val = true) :
    (s.requestInterrupt k).deliverable = true := by
  have hf : (s.requestInterrupt k).ifr.getLsbD k.val = true := by
    rw [State.requestInterrupt, getLsbD_or_irqMask, decide_eq_true rfl, Bool.or_true]
  exact State.deliverable_iff.2 ⟨hi, State.pe_ne_zero_of_getLsbD he hf⟩

end

/-- Settles O9: a request that arrives at a boundary is in IF when the check is made. -/
theorem requestSetsOnePendingBit : Obligations.RequestSetsOnePendingBit := by
  refine ⟨fun s k => ⟨rfl, getLsbD_or_irqMask s.ifr k, State.requestInterrupt_idem k⟩, fun s k later hb hin hi he => ?_⟩
  have harrive : s.arrive = State.requestInterrupt { s with inputs := later } k := by rw [State.arrive, hin]; rfl
  rw [step_of_boundary hb, harrive]
  exact boundaryStep_of_deliverable (State.deliverable_requestInterrupt hi he)

/-! ### Disabling at once, and enabling after a delay -/

/-- Settles O12: DI and Dispatch_IE with a source to take both call `disableImmediately`. -/
theorem disableClearsAndCancels : Obligations.DisableClearsAndCancels := fun s =>
  ⟨rfl, rfl, fun hp => by rw [State.phaseIe_of_pending hp]; exact ⟨rfl, rfl⟩⟩

section
variable {s : State}

theorem State.instructionFinished_of_due (h : s.imeSched = .due) :
    s.instructionFinished = { s with ime := true, imeSched := .none } := by
  rw [State.instructionFinished, h]

theorem State.instructionFinished_of_armed (h : s.imeSched = .armed) : s.instructionFinished = { s with imeSched := .due } := by
  rw [State.instructionFinished, h]

theorem State.instructionFinished_of_none (h : s.imeSched = .none) : s.instructionFinished = s := by
  rw [State.instructionFinished, h]

theorem exec_ei_of_unscheduled (hi : s.ime = false) (hs : s.imeSched = .none) :
    exec .ei s = .next { s with imeSched := .armed } := by
  rw [exec_of_form_eq_next (f := .ei) rfl nofun, nextForm_ei, State.scheduleEnable_true, if_pos ⟨hi, hs⟩]

/-- Where an enable is due, DI alone cancels it: RETI's enable comes at once, and a second EI changes nothing (D11). -/
theorem nextForm_of_due {f : Form} (hf : f ≠ .di) (h : s.imeSched = .due) :
    (nextForm f s).imeSched = .due ∨ (nextForm f s).ime = true ∧ (nextForm f s).imeSched = .none := by
  by_cases hreti : f = .reti
  · subst hreti
    exact .inr ⟨rfl, rfl⟩
  by_cases hei : f = .ei
  · subst hei
    rw [nextForm_ei, State.scheduleEnable_true, if_neg (by simp [h])]
    exact .inl h
  exact .inl (((nextForm_control f s).imeSched hf hei hreti).trans h)

end

/-- Settles O13: one equation for each value of the slot. -/
theorem deferredEnable : Obligations.DeferredEnable := fun _ =>
  ⟨rfl, rfl, State.instructionFinished_of_due, State.instructionFinished_of_armed, State.instructionFinished_of_none⟩

/-- Settles O14: `nextForm_of_due`, and the completion turns what it leaves into IME 1 with nothing scheduled. -/
theorem enableTakesEffectAfterTheNextInstruction : Obligations.EnableTakesEffectAfterTheNextInstruction := by
  intro s hi hs
  refine ⟨⟨_, exec_ei_of_unscheduled hi hs, rfl, rfl⟩, fun i t hdi h => ?_⟩
  have hf : i.form ≠ .di := mt eq_di_of_form hdi
  rw [exec_next h]
  rcases nextForm_of_due (s := { s with imeSched := .due }) hf rfl with hdue | ⟨hime, hnone⟩
  · rw [State.instructionFinished_of_due hdue]
    exact ⟨rfl, rfl⟩
  · rw [State.instructionFinished_of_none hnone]
    exact ⟨hime, hnone⟩

/-- A step from a Fetch boundary with IME 0 and no event due runs the one-byte instruction at PC. -/
theorem step_of_oneByte {s : State} {i : Instr} {b : Byte} (he : s.engine = .fetch) (hbug : s.haltBug = false)
    (hin : s.inputs = []) (hi : s.ime = false) (hw : i.wellFormed = true) (henc : encode i = [b])
    (hb : s.readAt (s.cycleCount + 4) s.pc = b) :
    step s = finish (exec i { s with pc := s.pc + 1, cycleCount := s.cycleCount + 4 }) := by
  rw [step_of_quiet_fetch he hin (State.deliverable_of_ime_eq_false hi), runInstruction_eq hw henc hb trivial]
  simp [hbug]

/-- Settles O15: EI arms the slot, its completion makes it DUE, and DI clears it before an enable comes of it. -/
theorem enableThenDisableNeverEnables : Obligations.EnableThenDisableNeverEnables := by
  intro s he hbug hin hi hs hfb hf3
  have hei : step s = .next { s with pc := s.pc + 1, cycleCount := s.cycleCount + 4, imeSched := .due } := by
    rw [step_of_oneByte (i := .ei) he hbug hin hi rfl rfl hfb, exec_ei_of_unscheduled]
    · rfl
    · exact hi
    · exact hs
  refine ⟨_, _, hei, hi, rfl, step_of_oneByte (i := .di) he hbug hin hi rfl rfl hf3, rfl, rfl, ?_⟩
  exact word_add_one_add_one s.pc

/-! ### The choice of a source -/

/-- A pending and enabled source other than the chosen one is deliverable once IME is 1 again (R342). -/
theorem State.deliverable_phaseIe_of_ne_lowest {s : State} (hp : s.pe ≠ 0) {j : Irq} (hj : j ≠ lowest s.pe)
    (hpj : s.pe.getLsbD j.val = true) : State.deliverable { s.phaseIe with ime := true } = true := by
  obtain ⟨hie, hifr⟩ : s.ie.getLsbD j.val = true ∧ s.ifr.getLsbD j.val = true := by
    rwa [State.pe, BitVec.getLsbD_and, Bool.and_eq_true] at hpj
  rw [State.phaseIe_of_pending hp]
  refine State.deliverable_iff.2 ⟨rfl, State.pe_ne_zero_of_getLsbD (k := j) hie ?_⟩
  rw [getLsbD_clear_irqMask, hifr, decide_eq_true hj]
  rfl

/-- Settles O16: `lowest_spec` for the choice; Dispatch_IE clears the chosen bit alone. -/
theorem lowestPendingSourceWins : Obligations.LowestPendingSourceWins := by
  intro s
  refine ⟨rfl, State.deliverable_iff, fun hp => ?_⟩
  obtain ⟨hset, hlow⟩ := lowest_spec s.pe hp
  refine ⟨hset, hlow, ?_, fun j => ?_, fun _ => State.deliverable_phaseIe_of_ne_lowest hp⟩
  · rw [State.phaseIe_of_pending hp]
  · rw [State.phaseIe_of_pending hp, getLsbD_clear_irqMask]

end Sys2Proof.Machine
end

section
/-! PROOFS. The dispatch: its five phases, one machine cycle each, and their net effect (R345 to R350). -/

namespace Sys2Proof.Machine

section
variable {s : State}

/-! ### One machine cycle in each of the dispatch states -/

/-- No check is made in a dispatch state, so a machine cycle is the state's action alone (R121, R122). -/
theorem machineCycle_of_dispatching {e : EngineState} (hin : s.inputs = []) (he : s.engine = e)
    (hd : EngineState.dispatching e = true) : machineCycle s = stateAction s := by
  subst he
  have hb : s.atBoundary = false :=
    Bool.eq_false_iff.2 fun hb => Bool.noConfusion (hd.symm.trans (EngineState.free_of_boundary hb).1)
  rw [machineCycle, State.arrive_of_nil hin, State.interruptCheck_of_not_boundary hb]

theorem machineCycle_of_dispatchIf (hin : s.inputs = []) (he : s.engine = .dispatchIf) : machineCycle s = .next s.phaseIf := by
  rw [machineCycle_of_dispatching hin he rfl, stateAction, he]

theorem machineCycle_of_dispatchIe (hin : s.inputs = []) (he : s.engine = .dispatchIe) : machineCycle s = .next s.phaseIe := by
  rw [machineCycle_of_dispatching hin he rfl, stateAction, he]

theorem machineCycle_of_dispatchPush1 (hin : s.inputs = []) (he : s.engine = .dispatchPush1) :
    machineCycle s = .next s.phasePush1 := by
  rw [machineCycle_of_dispatching hin he rfl, stateAction, he]

theorem machineCycle_of_dispatchPush2 (hin : s.inputs = []) (he : s.engine = .dispatchPush2) :
    machineCycle s = .next s.phasePush2 := by
  rw [machineCycle_of_dispatching hin he rfl, stateAction, he]

theorem machineCycle_of_dispatchJump (hin : s.inputs = []) (he : s.engine = .dispatchJump) :
    machineCycle s = .next s.phaseJump := by
  rw [machineCycle_of_dispatching hin he rfl, stateAction, he]

/-! ### Memory after the two pushes -/

theorem State.read8_takeInterrupt (hd : s.deliverable = true) (h1 : isController (s.sp - 1) = false)
    (h2 : isController (s.sp - 2) = false) {a : Word} (ha : isController a = false) :
    s.takeInterrupt.read8 a =
      if a = s.sp - 2 then loByte s.pc else if a = s.sp - 1 then hiByte s.pc else s.read8 a := by
  rw [State.takeInterrupt_eq (State.deliverable_iff.1 hd).2 h1 h2, State.read8_of_memory ha, State.read8_of_memory ha]
  simp only [Memory.read_write, BitVec.toNat_inj]

end

/-- Settles O17: each dispatch state's machine cycle is its phase; Dispatch_IE has two cases. -/
theorem dispatchPhases : Obligations.DispatchPhases := by
  intro s hin
  refine ⟨machineCycle_of_dispatchIf hin, fun he hp => ?_, fun he hp => ?_, machineCycle_of_dispatchPush1 hin,
    machineCycle_of_dispatchPush2 hin, fun he => ?_⟩
  · rw [machineCycle_of_dispatchIe hin he, State.phaseIe_of_pending hp]
    rfl
  · rw [machineCycle_of_dispatchIe hin he, State.phaseIe_of_none hp]
  · rw [machineCycle_of_dispatchJump hin he, State.phaseJump, vector_eq]

/-- Settles O19: `State.takeInterrupt_eq` for the state, `State.read8_takeInterrupt` for the bytes of memory. -/
theorem dispatchNetEffect : Obligations.DispatchNetEffect := by
  intro s hd h1 h2 t
  have hread {a : Word} (ha : isController a = false) := State.read8_takeInterrupt hd h1 h2 ha
  refine ⟨?_, ?_, ?_, fun n a ha hne1 hne2 => ?_⟩
  · simp only [t, State.takeInterrupt_eq (State.deliverable_iff.1 hd).2 h1 h2, vector_eq]
    rfl
  · rw [hread h1, if_neg (word_sub_one_ne_sub_two s.sp), if_pos rfl]
    rfl
  · rw [hread h2, if_pos rfl]
    rfl
  · rw [State.readAt_eq_read8 ha, State.readAt_eq_read8 ha, hread ha, if_neg hne2, if_neg hne1]

end Sys2Proof.Machine
end

section
/-! PROOFS. NOP, STOP, DI, EI, HALT and the table-selecting byte (R305 to R310). -/

namespace Sys2Proof.Machine

theorem exec_halt (s : State) :
    exec .halt s = .next (if s.ime = false ∧ s.pe ≠ 0 then { s with haltBug := true } else { s with engine := .halted }) := by
  rw [exec_of_form_eq_next (f := .halt) rfl nofun, nextForm_halt]
  simp only [State.wakePending_iff]

/-- Settles O56: `exec_halt` for HALT's two cases; the others have one. -/
theorem systemInstructions : Obligations.SystemInstructions := fun s =>
  ⟨rfl, rfl, rfl, rfl, fun h => (exec_halt s).trans (congrArg Host.Outcome.next (if_pos h)),
    fun h => (exec_halt s).trans (congrArg Host.Outcome.next (if_neg h)), rfl⟩

end Sys2Proof.Machine
end
